-- ==== Sys2Proof/Word.lean ====
section
/-! DEFINITION. The two word sizes of the core (spec/00_scope.md R8): bytes and 16-bit words. -/

namespace Sys2Proof

/-- An 8-bit register, a byte of memory or of the instruction stream (R8). -/
abbrev Byte := BitVec 8

/-- A 16-bit address, SP, PC or a register pair (R8). -/
abbrev Word := BitVec 16

end Sys2Proof
end

