-- ==== Sys2Proof/Config.lean ====
section
/-! DEFINITION. The named parameters of spec/00_scope.md R9 as one argument, the values the spec chooses for
them, and the one free value of the model: the replies of the external port (spec/20_memory.md R62). -/

namespace Sys2Proof

/-- What the collaborators behind the external port have seen: one event per port access the block
makes, in the order it makes them (R62), and the base cycles by which the caller advances them after
each step (R48). A list of these is the collaborators' whole history, newest event first. -/
inductive PortEvent where
  /-- The block read `addr` through the port and was given `value`. -/
  | read (addr : Word) (value : Byte)
  /-- The block wrote `value` to `addr` through the port. -/
  | write (addr : Word) (value : Byte)
  /-- A step returned `cycles`, by which the caller advanced the collaborators. -/
  | elapsed (cycles : BitVec 32)
deriving DecidableEq, Repr

/-- The values `STOP_LENGTH` may take (R9, R531): with 2 STOP fetches and ignores a second byte, with 1 that
fetch is left out. -/
inductive StopLength where
  | one | two
deriving DecidableEq, Repr

/-- The number of bytes STOP consumes (R531). -/
def StopLength.toNat : StopLength → Nat
  | .one => 1
  | .two => 2

/-- The parameters of R9 that are data, one argument of the whole block (log 9). `BOOT_SKIP` is an argument of
reset alone, and `EXT` is `PortEvent` with `Config.extReply`. -/
structure Params where
  /-- `OPEN_BUS`, what the unused region reads as (R9, R65, D32). -/
  openBus : Byte
  /-- `IF_UNUSED_BITS`, what bits 7:5 of IF read as (R9, R41, D8). -/
  ifUnusedBits : BitVec 3
  /-- `STOP_LENGTH`, the bytes STOP consumes (R9, R531, D13). -/
  stopLength : StopLength
  /-- `IDLE_CYCLES`, returned by a step that fetches nothing and dispatches nothing (R9, R579, D5). -/
  idleCycles : BitVec 32
  /-- `LOCKED_CYCLES`, returned by a step of a locked core and by the step that executes an illegal
  opcode (R9, R560, D4). -/
  lockedCycles : BitVec 32
  /-- `RAM_FILL`, every byte of work RAM and high RAM at reset (R9, R620, D15). -/
  ramFill : Byte
deriving DecidableEq, Repr

/-- The values in brackets of R9, the ones the spec chooses where a value is needed. -/
def Params.chosen : Params :=
  { openBus := 0xFF#8, ifUnusedBits := 0b111#3, stopLength := .two, idleCycles := 4#32, lockedCycles := 4#32
    ramFill := 0x00#8 }

namespace Config

/-- `BOOT_SKIP`, the argument of the reset that makes `State.reset`.
DESIGN CHOICE (log 1): the spec leaves it an argument, and its own runs start with it true. -/
def bootSkip : Bool := true

/-- FREE VALUE (log 2): what the collaborators answer when the block reads `addr` through the external
port after the history `port`. Nothing constrains it: R62 says the collaborators' behaviour is not
specified, and that a model that does not model them takes each read as a free draw. The history
grows at every access, so no two reads of a run share an argument. -/
opaque extReply (port : List PortEvent) (addr : Word) : Byte

end Config

end Sys2Proof
end

