-- ==== Sys2Proof/Syntax.lean ====
section
/-! DEFINITION. The syntax of the instruction set: the operand fields of spec/30_encoding.md R103 to R106
and one constructor of `Instr` per row of spec/opcode_table.json. -/

namespace Sys2Proof

/-- The 8-bit operand field `r8` (R103); `ind` is the memory byte `(HL)`. -/
inductive R8 where
  | b | c | d | e | h | l | ind | a
deriving DecidableEq, Repr

/-- The 16-bit operand field `rp` of loads and arithmetic (R104). -/
inductive Rp where
  | bc | de | hl | sp
deriving DecidableEq, Repr

/-- The 16-bit operand field `rp2` of PUSH and POP (R104). -/
inductive Rp2 where
  | bc | de | hl | af
deriving DecidableEq, Repr

/-- The condition field `cc` (R105). -/
inductive Cc where
  | nz | z | nc | c
deriving DecidableEq, Repr

/-- The ALU field (R106). -/
inductive AluOp where
  | add | adc | sub | sbc | and | xor | or | cp
deriving DecidableEq, Repr

/-- The CB rotate field (R106). -/
inductive RotOp where
  | rlc | rrc | rl | rr | sla | sra | swap | srl
deriving DecidableEq, Repr

/-- The instructions, one per row of spec/opcode_table.json: those with an immediate first, then the rest of
the base table (R110) with its illegal cells (R112), then the CB table (R111), each in the table's order. `Ind` in a name stands for the parentheses of R115.
An argument is the instruction's immediate (R107); STOP carries its ignored byte, absent where `STOP_LENGTH`
is 1 (R531), PREFIX CB the byte that selects the CB entry. -/
inductive Instr where
  /-- LD BC,d16 -/
  | ldBcD16 (d16 : Word)
  /-- LD B,d8 -/
  | ldBD8 (d8 : Byte)
  /-- LD (a16),SP -/
  | ldIndA16Sp (a16 : Word)
  /-- LD C,d8 -/
  | ldCD8 (d8 : Byte)
  /-- STOP -/
  | stop (ign : Option Byte)
  /-- LD DE,d16 -/
  | ldDeD16 (d16 : Word)
  /-- LD D,d8 -/
  | ldDD8 (d8 : Byte)
  /-- JR e8 -/
  | jrE8 (e8 : Byte)
  /-- LD E,d8 -/
  | ldED8 (d8 : Byte)
  /-- JR NZ,e8 -/
  | jrNzE8 (e8 : Byte)
  /-- LD HL,d16 -/
  | ldHlD16 (d16 : Word)
  /-- LD H,d8 -/
  | ldHD8 (d8 : Byte)
  /-- JR Z,e8 -/
  | jrZE8 (e8 : Byte)
  /-- LD L,d8 -/
  | ldLD8 (d8 : Byte)
  /-- JR NC,e8 -/
  | jrNcE8 (e8 : Byte)
  /-- LD SP,d16 -/
  | ldSpD16 (d16 : Word)
  /-- LD (HL),d8 -/
  | ldIndHlD8 (d8 : Byte)
  /-- JR C,e8 -/
  | jrCE8 (e8 : Byte)
  /-- LD A,d8 -/
  | ldAD8 (d8 : Byte)
  /-- JP NZ,a16 -/
  | jpNzA16 (a16 : Word)
  /-- JP a16 -/
  | jpA16 (a16 : Word)
  /-- CALL NZ,a16 -/
  | callNzA16 (a16 : Word)
  /-- ADD A,d8 -/
  | addAD8 (d8 : Byte)
  /-- JP Z,a16 -/
  | jpZA16 (a16 : Word)
  /-- PREFIX CB -/
  | prefixCb (cbop : Byte)
  /-- CALL Z,a16 -/
  | callZA16 (a16 : Word)
  /-- CALL a16 -/
  | callA16 (a16 : Word)
  /-- ADC A,d8 -/
  | adcAD8 (d8 : Byte)
  /-- JP NC,a16 -/
  | jpNcA16 (a16 : Word)
  /-- CALL NC,a16 -/
  | callNcA16 (a16 : Word)
  /-- SUB d8 -/
  | subD8 (d8 : Byte)
  /-- JP C,a16 -/
  | jpCA16 (a16 : Word)
  /-- CALL C,a16 -/
  | callCA16 (a16 : Word)
  /-- SBC A,d8 -/
  | sbcAD8 (d8 : Byte)
  /-- LDH (a8),A -/
  | ldhIndA8A (a8 : Byte)
  /-- AND d8 -/
  | andD8 (d8 : Byte)
  /-- ADD SP,e8 -/
  | addSpE8 (e8 : Byte)
  /-- LD (a16),A -/
  | ldIndA16A (a16 : Word)
  /-- XOR d8 -/
  | xorD8 (d8 : Byte)
  /-- LDH A,(a8) -/
  | ldhAIndA8 (a8 : Byte)
  /-- OR d8 -/
  | orD8 (d8 : Byte)
  /-- LD HL,SP+e8 -/
  | ldHlSpE8 (e8 : Byte)
  /-- LD A,(a16) -/
  | ldAIndA16 (a16 : Word)
  /-- CP d8 -/
  | cpD8 (d8 : Byte)
  /-- NOP -/
  | nop
  /-- LD (BC),A -/
  | ldIndBcA
  /-- INC BC -/
  | incBc
  /-- INC B -/
  | incB
  /-- DEC B -/
  | decB
  /-- RLCA -/
  | rlca
  /-- ADD HL,BC -/
  | addHlBc
  /-- LD A,(BC) -/
  | ldAIndBc
  /-- DEC BC -/
  | decBc
  /-- INC C -/
  | incC
  /-- DEC C -/
  | decC
  /-- RRCA -/
  | rrca
  /-- LD (DE),A -/
  | ldIndDeA
  /-- INC DE -/
  | incDe
  /-- INC D -/
  | incD
  /-- DEC D -/
  | decD
  /-- RLA -/
  | rla
  /-- ADD HL,DE -/
  | addHlDe
  /-- LD A,(DE) -/
  | ldAIndDe
  /-- DEC DE -/
  | decDe
  /-- INC E -/
  | incE
  /-- DEC E -/
  | decE
  /-- RRA -/
  | rra
  /-- LD (HL+),A -/
  | ldIndHlIncA
  /-- INC HL -/
  | incHl
  /-- INC H -/
  | incH
  /-- DEC H -/
  | decH
  /-- DAA -/
  | daa
  /-- ADD HL,HL -/
  | addHlHl
  /-- LD A,(HL+) -/
  | ldAIndHlInc
  /-- DEC HL -/
  | decHl
  /-- INC L -/
  | incL
  /-- DEC L -/
  | decL
  /-- CPL -/
  | cpl
  /-- LD (HL-),A -/
  | ldIndHlDecA
  /-- INC SP -/
  | incSp
  /-- INC (HL) -/
  | incIndHl
  /-- DEC (HL) -/
  | decIndHl
  /-- SCF -/
  | scf
  /-- ADD HL,SP -/
  | addHlSp
  /-- LD A,(HL-) -/
  | ldAIndHlDec
  /-- DEC SP -/
  | decSp
  /-- INC A -/
  | incA
  /-- DEC A -/
  | decA
  /-- CCF -/
  | ccf
  /-- LD B,B -/
  | ldBB
  /-- LD B,C -/
  | ldBC
  /-- LD B,D -/
  | ldBD
  /-- LD B,E -/
  | ldBE
  /-- LD B,H -/
  | ldBH
  /-- LD B,L -/
  | ldBL
  /-- LD B,(HL) -/
  | ldBIndHl
  /-- LD B,A -/
  | ldBA
  /-- LD C,B -/
  | ldCB
  /-- LD C,C -/
  | ldCC
  /-- LD C,D -/
  | ldCD
  /-- LD C,E -/
  | ldCE
  /-- LD C,H -/
  | ldCH
  /-- LD C,L -/
  | ldCL
  /-- LD C,(HL) -/
  | ldCIndHl
  /-- LD C,A -/
  | ldCA
  /-- LD D,B -/
  | ldDB
  /-- LD D,C -/
  | ldDC
  /-- LD D,D -/
  | ldDD
  /-- LD D,E -/
  | ldDE
  /-- LD D,H -/
  | ldDH
  /-- LD D,L -/
  | ldDL
  /-- LD D,(HL) -/
  | ldDIndHl
  /-- LD D,A -/
  | ldDA
  /-- LD E,B -/
  | ldEB
  /-- LD E,C -/
  | ldEC
  /-- LD E,D -/
  | ldED
  /-- LD E,E -/
  | ldEE
  /-- LD E,H -/
  | ldEH
  /-- LD E,L -/
  | ldEL
  /-- LD E,(HL) -/
  | ldEIndHl
  /-- LD E,A -/
  | ldEA
  /-- LD H,B -/
  | ldHB
  /-- LD H,C -/
  | ldHC
  /-- LD H,D -/
  | ldHD
  /-- LD H,E -/
  | ldHE
  /-- LD H,H -/
  | ldHH
  /-- LD H,L -/
  | ldHL
  /-- LD H,(HL) -/
  | ldHIndHl
  /-- LD H,A -/
  | ldHA
  /-- LD L,B -/
  | ldLB
  /-- LD L,C -/
  | ldLC
  /-- LD L,D -/
  | ldLD
  /-- LD L,E -/
  | ldLE
  /-- LD L,H -/
  | ldLH
  /-- LD L,L -/
  | ldLL
  /-- LD L,(HL) -/
  | ldLIndHl
  /-- LD L,A -/
  | ldLA
  /-- LD (HL),B -/
  | ldIndHlB
  /-- LD (HL),C -/
  | ldIndHlC
  /-- LD (HL),D -/
  | ldIndHlD
  /-- LD (HL),E -/
  | ldIndHlE
  /-- LD (HL),H -/
  | ldIndHlH
  /-- LD (HL),L -/
  | ldIndHlL
  /-- HALT -/
  | halt
  /-- LD (HL),A -/
  | ldIndHlA
  /-- LD A,B -/
  | ldAB
  /-- LD A,C -/
  | ldAC
  /-- LD A,D -/
  | ldAD
  /-- LD A,E -/
  | ldAE
  /-- LD A,H -/
  | ldAH
  /-- LD A,L -/
  | ldAL
  /-- LD A,(HL) -/
  | ldAIndHl
  /-- LD A,A -/
  | ldAA
  /-- ADD A,B -/
  | addAB
  /-- ADD A,C -/
  | addAC
  /-- ADD A,D -/
  | addAD
  /-- ADD A,E -/
  | addAE
  /-- ADD A,H -/
  | addAH
  /-- ADD A,L -/
  | addAL
  /-- ADD A,(HL) -/
  | addAIndHl
  /-- ADD A,A -/
  | addAA
  /-- ADC A,B -/
  | adcAB
  /-- ADC A,C -/
  | adcAC
  /-- ADC A,D -/
  | adcAD
  /-- ADC A,E -/
  | adcAE
  /-- ADC A,H -/
  | adcAH
  /-- ADC A,L -/
  | adcAL
  /-- ADC A,(HL) -/
  | adcAIndHl
  /-- ADC A,A -/
  | adcAA
  /-- SUB B -/
  | subB
  /-- SUB C -/
  | subC
  /-- SUB D -/
  | subD
  /-- SUB E -/
  | subE
  /-- SUB H -/
  | subH
  /-- SUB L -/
  | subL
  /-- SUB (HL) -/
  | subIndHl
  /-- SUB A -/
  | subA
  /-- SBC A,B -/
  | sbcAB
  /-- SBC A,C -/
  | sbcAC
  /-- SBC A,D -/
  | sbcAD
  /-- SBC A,E -/
  | sbcAE
  /-- SBC A,H -/
  | sbcAH
  /-- SBC A,L -/
  | sbcAL
  /-- SBC A,(HL) -/
  | sbcAIndHl
  /-- SBC A,A -/
  | sbcAA
  /-- AND B -/
  | andB
  /-- AND C -/
  | andC
  /-- AND D -/
  | andD
  /-- AND E -/
  | andE
  /-- AND H -/
  | andH
  /-- AND L -/
  | andL
  /-- AND (HL) -/
  | andIndHl
  /-- AND A -/
  | andA
  /-- XOR B -/
  | xorB
  /-- XOR C -/
  | xorC
  /-- XOR D -/
  | xorD
  /-- XOR E -/
  | xorE
  /-- XOR H -/
  | xorH
  /-- XOR L -/
  | xorL
  /-- XOR (HL) -/
  | xorIndHl
  /-- XOR A -/
  | xorA
  /-- OR B -/
  | orB
  /-- OR C -/
  | orC
  /-- OR D -/
  | orD
  /-- OR E -/
  | orE
  /-- OR H -/
  | orH
  /-- OR L -/
  | orL
  /-- OR (HL) -/
  | orIndHl
  /-- OR A -/
  | orA
  /-- CP B -/
  | cpB
  /-- CP C -/
  | cpC
  /-- CP D -/
  | cpD
  /-- CP E -/
  | cpE
  /-- CP H -/
  | cpH
  /-- CP L -/
  | cpL
  /-- CP (HL) -/
  | cpIndHl
  /-- CP A -/
  | cpA
  /-- RET NZ -/
  | retNz
  /-- POP BC -/
  | popBc
  /-- PUSH BC -/
  | pushBc
  /-- RST 0x00 -/
  | rst00
  /-- RET Z -/
  | retZ
  /-- RET -/
  | ret
  /-- RST 0x08 -/
  | rst08
  /-- RET NC -/
  | retNc
  /-- POP DE -/
  | popDe
  /-- ILLEGAL_D3 -/
  | illegalD3
  /-- PUSH DE -/
  | pushDe
  /-- RST 0x10 -/
  | rst10
  /-- RET C -/
  | retC
  /-- RETI -/
  | reti
  /-- ILLEGAL_DB -/
  | illegalDB
  /-- ILLEGAL_DD -/
  | illegalDD
  /-- RST 0x18 -/
  | rst18
  /-- POP HL -/
  | popHl
  /-- LD (C),A -/
  | ldIndCA
  /-- ILLEGAL_E3 -/
  | illegalE3
  /-- ILLEGAL_E4 -/
  | illegalE4
  /-- PUSH HL -/
  | pushHl
  /-- RST 0x20 -/
  | rst20
  /-- JP HL -/
  | jpHl
  /-- ILLEGAL_EB -/
  | illegalEB
  /-- ILLEGAL_EC -/
  | illegalEC
  /-- ILLEGAL_ED -/
  | illegalED
  /-- RST 0x28 -/
  | rst28
  /-- POP AF -/
  | popAf
  /-- LD A,(C) -/
  | ldAIndC
  /-- DI -/
  | di
  /-- ILLEGAL_F4 -/
  | illegalF4
  /-- PUSH AF -/
  | pushAf
  /-- RST 0x30 -/
  | rst30
  /-- LD SP,HL -/
  | ldSpHl
  /-- EI -/
  | ei
  /-- ILLEGAL_FC -/
  | illegalFC
  /-- ILLEGAL_FD -/
  | illegalFD
  /-- RST 0x38 -/
  | rst38
  /-- RLC B -/
  | rlcB
  /-- RLC C -/
  | rlcC
  /-- RLC D -/
  | rlcD
  /-- RLC E -/
  | rlcE
  /-- RLC H -/
  | rlcH
  /-- RLC L -/
  | rlcL
  /-- RLC (HL) -/
  | rlcIndHl
  /-- RLC A -/
  | rlcA
  /-- RRC B -/
  | rrcB
  /-- RRC C -/
  | rrcC
  /-- RRC D -/
  | rrcD
  /-- RRC E -/
  | rrcE
  /-- RRC H -/
  | rrcH
  /-- RRC L -/
  | rrcL
  /-- RRC (HL) -/
  | rrcIndHl
  /-- RRC A -/
  | rrcA
  /-- RL B -/
  | rlB
  /-- RL C -/
  | rlC
  /-- RL D -/
  | rlD
  /-- RL E -/
  | rlE
  /-- RL H -/
  | rlH
  /-- RL L -/
  | rlL
  /-- RL (HL) -/
  | rlIndHl
  /-- RL A -/
  | rlA
  /-- RR B -/
  | rrB
  /-- RR C -/
  | rrC
  /-- RR D -/
  | rrD
  /-- RR E -/
  | rrE
  /-- RR H -/
  | rrH
  /-- RR L -/
  | rrL
  /-- RR (HL) -/
  | rrIndHl
  /-- RR A -/
  | rrA
  /-- SLA B -/
  | slaB
  /-- SLA C -/
  | slaC
  /-- SLA D -/
  | slaD
  /-- SLA E -/
  | slaE
  /-- SLA H -/
  | slaH
  /-- SLA L -/
  | slaL
  /-- SLA (HL) -/
  | slaIndHl
  /-- SLA A -/
  | slaA
  /-- SRA B -/
  | sraB
  /-- SRA C -/
  | sraC
  /-- SRA D -/
  | sraD
  /-- SRA E -/
  | sraE
  /-- SRA H -/
  | sraH
  /-- SRA L -/
  | sraL
  /-- SRA (HL) -/
  | sraIndHl
  /-- SRA A -/
  | sraA
  /-- SWAP B -/
  | swapB
  /-- SWAP C -/
  | swapC
  /-- SWAP D -/
  | swapD
  /-- SWAP E -/
  | swapE
  /-- SWAP H -/
  | swapH
  /-- SWAP L -/
  | swapL
  /-- SWAP (HL) -/
  | swapIndHl
  /-- SWAP A -/
  | swapA
  /-- SRL B -/
  | srlB
  /-- SRL C -/
  | srlC
  /-- SRL D -/
  | srlD
  /-- SRL E -/
  | srlE
  /-- SRL H -/
  | srlH
  /-- SRL L -/
  | srlL
  /-- SRL (HL) -/
  | srlIndHl
  /-- SRL A -/
  | srlA
  /-- BIT 0,B -/
  | bit0B
  /-- BIT 0,C -/
  | bit0C
  /-- BIT 0,D -/
  | bit0D
  /-- BIT 0,E -/
  | bit0E
  /-- BIT 0,H -/
  | bit0H
  /-- BIT 0,L -/
  | bit0L
  /-- BIT 0,(HL) -/
  | bit0IndHl
  /-- BIT 0,A -/
  | bit0A
  /-- BIT 1,B -/
  | bit1B
  /-- BIT 1,C -/
  | bit1C
  /-- BIT 1,D -/
  | bit1D
  /-- BIT 1,E -/
  | bit1E
  /-- BIT 1,H -/
  | bit1H
  /-- BIT 1,L -/
  | bit1L
  /-- BIT 1,(HL) -/
  | bit1IndHl
  /-- BIT 1,A -/
  | bit1A
  /-- BIT 2,B -/
  | bit2B
  /-- BIT 2,C -/
  | bit2C
  /-- BIT 2,D -/
  | bit2D
  /-- BIT 2,E -/
  | bit2E
  /-- BIT 2,H -/
  | bit2H
  /-- BIT 2,L -/
  | bit2L
  /-- BIT 2,(HL) -/
  | bit2IndHl
  /-- BIT 2,A -/
  | bit2A
  /-- BIT 3,B -/
  | bit3B
  /-- BIT 3,C -/
  | bit3C
  /-- BIT 3,D -/
  | bit3D
  /-- BIT 3,E -/
  | bit3E
  /-- BIT 3,H -/
  | bit3H
  /-- BIT 3,L -/
  | bit3L
  /-- BIT 3,(HL) -/
  | bit3IndHl
  /-- BIT 3,A -/
  | bit3A
  /-- BIT 4,B -/
  | bit4B
  /-- BIT 4,C -/
  | bit4C
  /-- BIT 4,D -/
  | bit4D
  /-- BIT 4,E -/
  | bit4E
  /-- BIT 4,H -/
  | bit4H
  /-- BIT 4,L -/
  | bit4L
  /-- BIT 4,(HL) -/
  | bit4IndHl
  /-- BIT 4,A -/
  | bit4A
  /-- BIT 5,B -/
  | bit5B
  /-- BIT 5,C -/
  | bit5C
  /-- BIT 5,D -/
  | bit5D
  /-- BIT 5,E -/
  | bit5E
  /-- BIT 5,H -/
  | bit5H
  /-- BIT 5,L -/
  | bit5L
  /-- BIT 5,(HL) -/
  | bit5IndHl
  /-- BIT 5,A -/
  | bit5A
  /-- BIT 6,B -/
  | bit6B
  /-- BIT 6,C -/
  | bit6C
  /-- BIT 6,D -/
  | bit6D
  /-- BIT 6,E -/
  | bit6E
  /-- BIT 6,H -/
  | bit6H
  /-- BIT 6,L -/
  | bit6L
  /-- BIT 6,(HL) -/
  | bit6IndHl
  /-- BIT 6,A -/
  | bit6A
  /-- BIT 7,B -/
  | bit7B
  /-- BIT 7,C -/
  | bit7C
  /-- BIT 7,D -/
  | bit7D
  /-- BIT 7,E -/
  | bit7E
  /-- BIT 7,H -/
  | bit7H
  /-- BIT 7,L -/
  | bit7L
  /-- BIT 7,(HL) -/
  | bit7IndHl
  /-- BIT 7,A -/
  | bit7A
  /-- RES 0,B -/
  | res0B
  /-- RES 0,C -/
  | res0C
  /-- RES 0,D -/
  | res0D
  /-- RES 0,E -/
  | res0E
  /-- RES 0,H -/
  | res0H
  /-- RES 0,L -/
  | res0L
  /-- RES 0,(HL) -/
  | res0IndHl
  /-- RES 0,A -/
  | res0A
  /-- RES 1,B -/
  | res1B
  /-- RES 1,C -/
  | res1C
  /-- RES 1,D -/
  | res1D
  /-- RES 1,E -/
  | res1E
  /-- RES 1,H -/
  | res1H
  /-- RES 1,L -/
  | res1L
  /-- RES 1,(HL) -/
  | res1IndHl
  /-- RES 1,A -/
  | res1A
  /-- RES 2,B -/
  | res2B
  /-- RES 2,C -/
  | res2C
  /-- RES 2,D -/
  | res2D
  /-- RES 2,E -/
  | res2E
  /-- RES 2,H -/
  | res2H
  /-- RES 2,L -/
  | res2L
  /-- RES 2,(HL) -/
  | res2IndHl
  /-- RES 2,A -/
  | res2A
  /-- RES 3,B -/
  | res3B
  /-- RES 3,C -/
  | res3C
  /-- RES 3,D -/
  | res3D
  /-- RES 3,E -/
  | res3E
  /-- RES 3,H -/
  | res3H
  /-- RES 3,L -/
  | res3L
  /-- RES 3,(HL) -/
  | res3IndHl
  /-- RES 3,A -/
  | res3A
  /-- RES 4,B -/
  | res4B
  /-- RES 4,C -/
  | res4C
  /-- RES 4,D -/
  | res4D
  /-- RES 4,E -/
  | res4E
  /-- RES 4,H -/
  | res4H
  /-- RES 4,L -/
  | res4L
  /-- RES 4,(HL) -/
  | res4IndHl
  /-- RES 4,A -/
  | res4A
  /-- RES 5,B -/
  | res5B
  /-- RES 5,C -/
  | res5C
  /-- RES 5,D -/
  | res5D
  /-- RES 5,E -/
  | res5E
  /-- RES 5,H -/
  | res5H
  /-- RES 5,L -/
  | res5L
  /-- RES 5,(HL) -/
  | res5IndHl
  /-- RES 5,A -/
  | res5A
  /-- RES 6,B -/
  | res6B
  /-- RES 6,C -/
  | res6C
  /-- RES 6,D -/
  | res6D
  /-- RES 6,E -/
  | res6E
  /-- RES 6,H -/
  | res6H
  /-- RES 6,L -/
  | res6L
  /-- RES 6,(HL) -/
  | res6IndHl
  /-- RES 6,A -/
  | res6A
  /-- RES 7,B -/
  | res7B
  /-- RES 7,C -/
  | res7C
  /-- RES 7,D -/
  | res7D
  /-- RES 7,E -/
  | res7E
  /-- RES 7,H -/
  | res7H
  /-- RES 7,L -/
  | res7L
  /-- RES 7,(HL) -/
  | res7IndHl
  /-- RES 7,A -/
  | res7A
  /-- SET 0,B -/
  | set0B
  /-- SET 0,C -/
  | set0C
  /-- SET 0,D -/
  | set0D
  /-- SET 0,E -/
  | set0E
  /-- SET 0,H -/
  | set0H
  /-- SET 0,L -/
  | set0L
  /-- SET 0,(HL) -/
  | set0IndHl
  /-- SET 0,A -/
  | set0A
  /-- SET 1,B -/
  | set1B
  /-- SET 1,C -/
  | set1C
  /-- SET 1,D -/
  | set1D
  /-- SET 1,E -/
  | set1E
  /-- SET 1,H -/
  | set1H
  /-- SET 1,L -/
  | set1L
  /-- SET 1,(HL) -/
  | set1IndHl
  /-- SET 1,A -/
  | set1A
  /-- SET 2,B -/
  | set2B
  /-- SET 2,C -/
  | set2C
  /-- SET 2,D -/
  | set2D
  /-- SET 2,E -/
  | set2E
  /-- SET 2,H -/
  | set2H
  /-- SET 2,L -/
  | set2L
  /-- SET 2,(HL) -/
  | set2IndHl
  /-- SET 2,A -/
  | set2A
  /-- SET 3,B -/
  | set3B
  /-- SET 3,C -/
  | set3C
  /-- SET 3,D -/
  | set3D
  /-- SET 3,E -/
  | set3E
  /-- SET 3,H -/
  | set3H
  /-- SET 3,L -/
  | set3L
  /-- SET 3,(HL) -/
  | set3IndHl
  /-- SET 3,A -/
  | set3A
  /-- SET 4,B -/
  | set4B
  /-- SET 4,C -/
  | set4C
  /-- SET 4,D -/
  | set4D
  /-- SET 4,E -/
  | set4E
  /-- SET 4,H -/
  | set4H
  /-- SET 4,L -/
  | set4L
  /-- SET 4,(HL) -/
  | set4IndHl
  /-- SET 4,A -/
  | set4A
  /-- SET 5,B -/
  | set5B
  /-- SET 5,C -/
  | set5C
  /-- SET 5,D -/
  | set5D
  /-- SET 5,E -/
  | set5E
  /-- SET 5,H -/
  | set5H
  /-- SET 5,L -/
  | set5L
  /-- SET 5,(HL) -/
  | set5IndHl
  /-- SET 5,A -/
  | set5A
  /-- SET 6,B -/
  | set6B
  /-- SET 6,C -/
  | set6C
  /-- SET 6,D -/
  | set6D
  /-- SET 6,E -/
  | set6E
  /-- SET 6,H -/
  | set6H
  /-- SET 6,L -/
  | set6L
  /-- SET 6,(HL) -/
  | set6IndHl
  /-- SET 6,A -/
  | set6A
  /-- SET 7,B -/
  | set7B
  /-- SET 7,C -/
  | set7C
  /-- SET 7,D -/
  | set7D
  /-- SET 7,E -/
  | set7E
  /-- SET 7,H -/
  | set7H
  /-- SET 7,L -/
  | set7L
  /-- SET 7,(HL) -/
  | set7IndHl
  /-- SET 7,A -/
  | set7A
deriving DecidableEq, Repr

end Sys2Proof
end

