-- ==== Sys2Proof/WellFormed.lean ====
section
/-! DEFINITION. Which terms of `Instr` are instructions of their own. Every immediate has its exact width
by its type, so two checks are left. -/

namespace Sys2Proof

/-- STOP has its ignored byte where `STOP_LENGTH` is 2, and none where it is 1 (spec/47_system.md R531). -/
def Instr.stopFits (n : StopLength) : Instr → Bool
  | .stop ign => ign.isSome == decide (n = .two)
  | _ => true

/-- PREFIX CB is a row of the table but "not an instruction of its own" (spec/47_system.md R535): its two
bytes are the CB-table entry its second byte selects, which is how they decode. Every other term whose STOP
fits `STOP_LENGTH` is an instruction. -/
def Instr.wf (n : StopLength) (i : Instr) : Bool :=
  match i with
  | .prefixCb _ => false
  | i => i.stopFits n

end Sys2Proof
end

