-- ==== Sys2Proof/Machine/State.lean ====
section
/-! DEFINITION. Every piece of state spec/10_state.md R46 gives the block, the collaborators' side of the
external port (spec/20_memory.md R62), and the two reset states of spec/70_reset_and_hazards.md R620. -/

namespace Sys2Proof.Machine

/-- The run state (R42). -/
inductive RunState where
  | running | halted | stopped
deriving DecidableEq, Repr

/-- The five interrupt sources, in the bit order of IE and IF (R40, R561). -/
inductive InterruptSource where
  | vblank | lcdStat | timer | serial | joypad
deriving DecidableEq, Repr

/-- Memory as a list of cells in one canonical form (`Memory.wf`, Machine/Ops.lean): addresses strictly
rising, no cell equal to what an unlisted address reads as. A cell of the block's RAM is keyed by its own
address, an echo address by the work-RAM address it mirrors (R61). A cell at an external address is a byte
with which the collaborators have been loaded, such as a ROM image (log 5). -/
abbrev Memory := List Host.Cell

/-- The state of the block (R46), below it the model's own three fields, and the parameters. -/
structure State where
  /-- A (R30). -/
  a : Byte
  /-- F: Z, N, H, C in bits 7:4 (R33). -/
  f : Byte
  /-- B (R30). -/
  b : Byte
  /-- C (R30). -/
  c : Byte
  /-- D (R30). -/
  d : Byte
  /-- E (R30). -/
  e : Byte
  /-- H (R30). -/
  h : Byte
  /-- L (R30). -/
  l : Byte
  /-- SP (R36). -/
  sp : Word
  /-- PC (R37). -/
  pc : Word
  /-- IME (R38). -/
  ime : Bool
  /-- `ei_pending` (R39). -/
  eiPending : Bool
  /-- IE, at 0xFFFF (R40). -/
  ie : Byte
  /-- IF, the five stored bits at 0xFF0F (R41). -/
  iflag : BitVec 5
  /-- The run state (R42). -/
  run : RunState
  /-- `halt_bug` (R43). -/
  haltBug : Bool
  /-- `locked` (R44). -/
  locked : Bool
  /-- `illegal_opcode`, meaningful while locked (R44). -/
  illegalOpcode : Byte
  /-- `illegal_pc`, meaningful while locked (R44). -/
  illegalPc : Word
  /-- WRAM and HRAM (R45), and the bytes the collaborators are loaded with (log 5). -/
  mem : Memory
  /-- The collaborators' history, newest event first (R62, log 2): the model's own field. -/
  port : List PortEvent
  /-- The address the current instruction's opcode byte was read from, which `raise IllegalOpcode`
  records (R102, log 6): the model's own field. -/
  opcodePc : Word
  /-- What the last step returned (R8, R631, log 7): the model's own field. -/
  cycles : BitVec 32
  /-- The parameters the block takes (R9, log 9). No transaction writes them. -/
  params : Params
deriving DecidableEq, Repr

/-- The reasons a step stops with a fault: none. The bus is total, no instruction faults outside the
machine, and an illegal opcode is a state of it (`locked`), which the next step finds (R560, R562). -/
inductive Fault
deriving DecidableEq, Repr

/-- The reasons the model answers a refusal. -/
inductive Refusal where
  /-- Raised by `exec` for an instruction that has no meaning yet. Safe: the run stops. No arm raises it. -/
  | notModelled (mnemonic : String)
  /-- Raised by the host transaction `request` for a source outside 0..4, which "a model refuses" (D43,
  I14). Safe: the transaction does nothing. No step raises it. -/
  | badInterruptSource (k : Nat)
deriving DecidableEq, Repr

/-- The state `reset(BOOT_SKIP)` leaves in a block with these parameters (R620): the two columns of R46. The
collaborators have seen nothing and are loaded with nothing. -/
def State.resetIn (p : Params) (bootSkip : Bool) : State :=
  match bootSkip with
  | false =>
    { a := 0x00#8, f := 0x00#8, b := 0x00#8, c := 0x00#8, d := 0x00#8, e := 0x00#8, h := 0x00#8, l := 0x00#8
      sp := 0x0000#16, pc := 0x0000#16, ime := false, eiPending := false, ie := 0x00#8, iflag := 0x00#5
      run := .running, haltBug := false, locked := false, illegalOpcode := 0x00#8, illegalPc := 0x0000#16
      mem := [], port := [], opcodePc := 0x0000#16, cycles := 0#32, params := p }
  | true =>
    { a := 0x01#8, f := 0xB0#8, b := 0x00#8, c := 0x13#8, d := 0x00#8, e := 0xD8#8, h := 0x01#8, l := 0x4D#8
      sp := 0xFFFE#16, pc := 0x0100#16, ime := false, eiPending := false, ie := 0x00#8, iflag := 0x01#5
      run := .running, haltBug := false, locked := false, illegalOpcode := 0x00#8, illegalPc := 0x0000#16
      mem := [], port := [], opcodePc := 0x0000#16, cycles := 0#32, params := p }

/-- The machine right after reset, with the parameters the spec chooses (R9, log 9), in the reset mode
`Config.bootSkip` (log 1). -/
def State.reset : State := State.resetIn Params.chosen Config.bootSkip

end Sys2Proof.Machine
end

