-- ==== Sys2Proof/Machine/Ops.lean ====
section
/-! DEFINITION. The named operations over registers, memory and the bus (spec/00_scope.md R11 to R15,
spec/20_memory.md R60 to R69), fetching (spec/30_encoding.md R101, R102), the one exception, the interrupts
and the return from them (spec/60_exceptions.md R560 to R573). -/

namespace Sys2Proof.Machine

/-- The outcome of a meaning or a step. -/
abbrev Result := Host.Outcome State Fault Refusal

/-! ## Registers and pairs (R11, R31, R33) -/

/-- Every write of F stores `v & 0xF0` (R33). -/
def State.writeF (v : Byte) (s : State) : State := { s with f := v &&& 0xF0#8 }

/-- Write A. -/
def State.setA (v : Byte) (s : State) : State := { s with a := v }

/-- Write SP. -/
def State.setSp (v : Word) (s : State) : State := { s with sp := v }

/-- Write PC. -/
def State.setPc (v : Word) (s : State) : State := { s with pc := v }

/-- Write IME. -/
def State.setIme (v : Bool) (s : State) : State := { s with ime := v }

/-- Write `ei_pending`. -/
def State.setEiPending (v : Bool) (s : State) : State := { s with eiPending := v }

/-- Write the run state. -/
def State.setRun (v : RunState) (s : State) : State := { s with run := v }

/-- Write `halt_bug`. -/
def State.setHaltBug (v : Bool) (s : State) : State := { s with haltBug := v }

/-- Record the count the step returns. -/
def State.setCycles (v : BitVec 32) (s : State) : State := { s with cycles := v }

/-- The pair AF, high register first (R31). -/
def State.af (s : State) : Word := mk16 s.a s.f

/-- The pair BC, high register first (R31). -/
def State.bc (s : State) : Word := mk16 s.b s.c

/-- The pair DE, high register first (R31). -/
def State.de (s : State) : Word := mk16 s.d s.e

/-- The pair HL, high register first (R31). -/
def State.hl (s : State) : Word := mk16 s.h s.l

/-- Write BC: both halves (R31). -/
def State.setBc (v : Word) (s : State) : State := { s with b := hi8 v, c := lo8 v }

/-- Write DE: both halves (R31). -/
def State.setDe (v : Word) (s : State) : State := { s with d := hi8 v, e := lo8 v }

/-- Write HL: both halves (R31). -/
def State.setHl (v : Word) (s : State) : State := { s with h := hi8 v, l := lo8 v }

/-- Write AF: A whole, F masked (R33, R104). -/
def State.setAf (v : Word) (s : State) : State := (s.setA (hi8 v)).writeF (lo8 v)

/-- Two's-complement widening of a byte (R10). -/
def sext16 (v : Byte) : Word := v.signExtend 16

/-- The address in page 0xFF00 at an unsigned offset (R107). -/
def pageAddr (n : Byte) : Word := 0xFF00#16 + n.setWidth 16

/-- The end of a meaning: the instruction completes and its step returns `n` base cycles (R16). -/
def done (n : BitVec 32) (s : State) : Result := .next (s.setCycles n)

/-! ## Memory cells (R45) -/

/-- The addresses of the block's RAM: work RAM and high RAM (R45). -/
def ramAddress (n : Nat) : Bool :=
  (decide (0xC000 ≤ n) && decide (n < 0xE000)) || (decide (0xFF80 ≤ n) && decide (n < 0xFFFF))

/-- The addresses R61 assigns to the external port. -/
def externalAddress (n : Nat) : Bool :=
  decide (n < 0xC000) || (decide (0xFE00 ≤ n) && decide (n < 0xFEA0))
    || (decide (0xFF00 ≤ n) && decide (n < 0xFF80) && decide (n ≠ 0xFF0F))

/-- What an unlisted cell reads as: `RAM_FILL`, here `fill`, in the block's RAM (R620); no value at an
external address, where the port answers (R62). -/
def unlisted (fill : Byte) (n : Nat) : Option Byte := if ramAddress n then some fill else none

/-- The cell listed at an address, if there is one. -/
def Memory.find : Memory → Nat → Option Byte
  | [], _ => none
  | cell :: m, n => if cell.1 = n then some cell.2 else Memory.find m n

/-- List no cell at an address. -/
def Memory.remove : Memory → Nat → Memory
  | [], _ => []
  | cell :: m, n => if cell.1 = n then Memory.remove m n else cell :: Memory.remove m n

/-- List a cell at its place in the order, in place of one already there. -/
def Memory.put : Memory → Nat → Byte → Memory
  | [], n, v => [(n, v)]
  | cell :: m, n, v =>
    if n < cell.1 then (n, v) :: cell :: m
    else if n = cell.1 then (n, v) :: m
    else cell :: Memory.put m n v

/-- Write a cell and keep the canonical form: a value equal to what the unlisted address reads as is not
listed. -/
def Memory.store (fill : Byte) (m : Memory) (n : Nat) (v : Byte) : Memory :=
  if unlisted fill n = some v then Memory.remove m n else Memory.put m n v

/-- A byte of the block's RAM. -/
def Memory.ram (fill : Byte) (m : Memory) (n : Nat) : Byte := (Memory.find m n).getD fill

/-- A cell may be listed where a cell can be, with a value other than the unlisted one. -/
def cellOk (fill : Byte) (cell : Host.Cell) : Bool :=
  (ramAddress cell.1 || externalAddress cell.1) && decide (unlisted fill cell.1 ≠ some cell.2)

/-- The canonical form of memory. -/
abbrev Memory.wf (fill : Byte) (m : Memory) : Prop :=
  m.Pairwise (fun x y => x.1 < y.1) ∧ ∀ x ∈ m, cellOk fill x = true

/-! ## The bus (R60 to R69) -/

/-- The region an address resolves to, by its owner (R61); RAM with the cell it addresses. -/
inductive Region where
  | external
  | ram (cell : Nat)
  | unused
  | ifReg
  | ieReg
deriving DecidableEq, Repr

/-- Address decoding (R61): the echo addresses the work-RAM cell 0x2000 below (R63). -/
def regionOf (a : Word) : Region :=
  let n := a.toNat
  if n < 0xC000 then .external
  else if n < 0xE000 then .ram n
  else if n < 0xFE00 then .ram (n - 0x2000)
  else if n < 0xFEA0 then .external
  else if n < 0xFF00 then .unused
  else if n = 0xFF0F then .ifReg
  else if n < 0xFF80 then .external
  else if n < 0xFFFF then .ram n
  else .ieReg

/-- IF as the bus reads it: `(IF_UNUSED_BITS << 5) | IF` (R41). -/
def State.ifRead (s : State) : Byte := s.params.ifUnusedBits ++ s.iflag

/-- `EXT.read` (R62): the byte the collaborators are loaded with there, else a free draw; the access joins
their history. -/
def extRead (a : Word) (s : State) : Byte × State :=
  let v := (Memory.find s.mem a.toNat).getD (Config.extReply s.port a)
  (v, { s with port := .read a v :: s.port })

/-- `EXT.write` (R62): the access joins the collaborators' history. A loaded byte below 0x8000 (ROM) stays
(R64); any other is not known after the write (R72, log 5). -/
def extWrite (a : Word) (v : Byte) (s : State) : State :=
  { s with
    mem := if a.toNat < 0x8000 then s.mem else Memory.remove s.mem a.toNat
    port := .write a v :: s.port }

/-- The byte of an address the block owns, without any effect (R49, R69); none at an external address. -/
def peek (a : Word) (s : State) : Option Byte :=
  match regionOf a with
  | .external => none
  | .ram n => some (Memory.ram s.params.ramFill s.mem n)
  | .unused => some s.params.openBus
  | .ifReg => some s.ifRead
  | .ieReg => some s.ie

/-- `MemRead(a, 1)` (R12, R61). -/
def busRead (a : Word) (s : State) : Byte × State :=
  match peek a s with
  | some v => (v, s)
  | none => extRead a s

/-- `MemWrite(a, 1, v)` (R12, R61). -/
def busWrite (a : Word) (v : Byte) (s : State) : State :=
  match regionOf a with
  | .external => extWrite a v s
  | .ram n => { s with mem := Memory.store s.params.ramFill s.mem n v }
  | .unused => s
  | .ifReg => { s with iflag := v.setWidth 5 }
  | .ieReg => { s with ie := v }

/-! ## The stack (R14) -/

/-- `push16(v)`: the high byte at SP - 1, then the low byte at SP - 2. -/
def push16 (v : Word) (s : State) : State :=
  let s1 := s.setSp (s.sp - 1)
  let s2 := busWrite s1.sp (hi8 v) s1
  let s3 := s2.setSp (s2.sp - 1)
  busWrite s3.sp (lo8 v) s3

/-- `pop16()`: the low byte at SP, then the high byte at SP + 1. -/
def pop16 (s : State) : Word × State :=
  let lo := busRead s.sp s
  let s1 := lo.2.setSp (lo.2.sp + 1)
  let hi := busRead s1.sp s1
  (mk16 hi.1 lo.1, hi.2.setSp (hi.2.sp + 1))

/-! ## Fetching (R13, R101, R102) -/

/-- `fetch8()` (R13). -/
def fetch8 (s : State) : Byte × State :=
  let r := busRead s.pc s
  (r.1, r.2.setPc (s.pc + 1))

/-- `fetch_opcode()` (R101): under the HALT bug PC is not advanced. The address read is kept for
`raise IllegalOpcode` (R102). -/
def fetchOpcode (s : State) : Byte × State :=
  let r := busRead s.pc s
  (r.1,
    if s.haltBug then { r.2 with opcodePc := s.pc, haltBug := false }
    else { r.2 with opcodePc := s.pc, pc := s.pc + 1 })

/-- What a fetch gives: the opcode byte, the instruction with its immediates, and the state after the
instruction's bytes. -/
structure Fetched where
  op : Byte
  instr : Instr
  state : State

/-- Fetch an instruction (R102): the opcode, then the bytes its length (R114) gives it, in stream order,
before any other access (D39). -/
def fetchInstr (s : State) : Fetched :=
  let n := s.params.stopLength
  let o := fetchOpcode s
  match instrLength n o.1 with
  | 1 => ⟨o.1, decodeInstr n o.1 0 0, o.2⟩
  | 2 =>
    let b1 := fetch8 o.2
    ⟨o.1, decodeInstr n o.1 b1.1 0, b1.2⟩
  | _ =>
    let b1 := fetch8 o.2
    let b2 := fetch8 b1.2
    ⟨o.1, decodeInstr n o.1 b1.1 b2.1, b2.2⟩

/-! ## The illegal-opcode exception (R560) -/

/-- `raise IllegalOpcode(op, a)`: lock the core and record the byte and its address; the step ends and
returns `LOCKED_CYCLES`. -/
def raiseIllegal (op : Byte) (a : Word) (s : State) : State :=
  { s with locked := true, illegalOpcode := op, illegalPc := a, cycles := s.params.lockedCycles }

/-! ## Interrupts (R564 to R573) -/

/-- The bit number of a source in IE and IF (R561). -/
def InterruptSource.code : InterruptSource → Nat
  | .vblank => 0
  | .lcdStat => 1
  | .timer => 2
  | .serial => 3
  | .joypad => 4

/-- The source with a bit number, if there is one (R561). -/
def InterruptSource.ofCode : Nat → Option InterruptSource
  | 0 => some .vblank
  | 1 => some .lcdStat
  | 2 => some .timer
  | 3 => some .serial
  | 4 => some .joypad
  | _ => none

/-- `vector(k) = 0x0040 + 8 * k` (R570). -/
def InterruptSource.vector (k : InterruptSource) : Word := BitVec.ofNat 16 (0x0040 + 8 * k.code)

/-- `p = IE & IF & 0x1F` on the stored bits (R565, C9). -/
def State.pending (s : State) : BitVec 5 := s.ie.setWidth 5 &&& s.iflag

/-- The serviced source: the lowest set bit of `p`, for `p` not 0 (R565). -/
def lowestSource (p : BitVec 5) : InterruptSource :=
  if p.getLsbD 0 then .vblank
  else if p.getLsbD 1 then .lcdStat
  else if p.getLsbD 2 then .timer
  else if p.getLsbD 3 then .serial
  else .joypad

/-- `dispatch(k)` (R571): push PC, or the HALT's address while the HALT bug is armed; clear IME,
`ei_pending` and IF bit `k`; go to the vector; the step returns 20. -/
def dispatchInterrupt (k : InterruptSource) (s : State) : State :=
  let ret := if s.haltBug then s.pc - 1 else s.pc
  let s1 := push16 ret (s.setHaltBug false)
  { s1 with
    ime := false
    eiPending := false
    iflag := s1.iflag &&& ~~~(1#5 <<< k.code)
    pc := k.vector
    cycles := 20#32 }

/-- The return of `RETI` (R509, R573): pop PC and set IME at once. -/
def returnFromInterrupt (s : State) : State :=
  let r := pop16 s
  (r.2.setPc r.1).setIme true

/-! ## Loading the collaborators, for `withFetchWord` (log 8) -/

/-- Whether a byte can be put where a fetch at this address reads it. -/
def placeable (a : Word) : Bool :=
  match regionOf a with
  | .external => true
  | .ram _ => true
  | _ => false

/-- Put a byte where a fetch at this address reads it: in the block's RAM, or as a byte the collaborators
are loaded with. -/
def placeByte (a : Word) (v : Byte) (s : State) : State :=
  match regionOf a with
  | .external => { s with mem := Memory.put s.mem a.toNat v }
  | .ram n => { s with mem := Memory.store s.params.ramFill s.mem n v }
  | _ => s

/-- Put three bytes where the very next step fetches, and clear what would keep it from fetching exactly
them: a run state other than RUNNING, the lock, the HALT bug, an interrupt to dispatch. PC moves, to the
start of work RAM, only from a place whose three bytes are not all memory. -/
def placeInstr (bs : Byte × Byte × Byte) (s : State) : State :=
  let pc := if placeable s.pc && placeable (s.pc + 1) && placeable (s.pc + 2) then s.pc else 0xC000#16
  let s1 := { s with
    pc := pc, run := .running, locked := false, haltBug := false
    ime := s.ime && decide (s.pending = 0#5) }
  placeByte (pc + 2) bs.2.2 (placeByte (pc + 1) bs.2.1 (placeByte pc bs.1 s1))

end Sys2Proof.Machine
end

