-- ==== Sys2Proof/Machine/Flags.lean ====
section
/-! DEFINITION. The flags (spec/10_state.md R33 to R35) and every computation of a result and its flags:
spec/42_alu8.md, spec/43_alu16.md, spec/44_rotate_shift.md. Operands go to Nat or Int, the result is exact
and narrowed at the end (R10). -/

namespace Sys2Proof.Machine

/-- The four flags (R33). -/
structure Flags where
  z : Bool
  n : Bool
  h : Bool
  c : Bool
deriving DecidableEq, Repr

/-- The flags held in F: Z bit 7, N bit 6, H bit 5, C bit 4 (R33). -/
def Flags.ofByte (f : Byte) : Flags := ⟨f.getLsbD 7, f.getLsbD 6, f.getLsbD 5, f.getLsbD 4⟩

/-- A bit as a byte. -/
def bit8 (b : Bool) : Byte := if b then 1#8 else 0#8

/-- F with these flags and bits 3:0 zero (R33). -/
def Flags.toByte (fl : Flags) : Byte :=
  (bit8 fl.z <<< 7) ||| (bit8 fl.n <<< 6) ||| (bit8 fl.h <<< 5) ||| (bit8 fl.c <<< 4)

/-- The flags of a state. -/
def State.flags (s : State) : Flags := Flags.ofByte s.f

/-- Write all four flags; one left alone is passed as it was (R11). -/
def State.setFlags (fl : Flags) (s : State) : State := s.writeF fl.toByte

/-! ## 8-bit arithmetic and logic -/

/-- The low nibble of a byte as a number. -/
def nibble (v : Byte) : Nat := (v &&& 0x0F#8).toNat

/-- `add8(a, b, cin)` (R300). -/
def add8 (a b : Byte) (cin : Bool) : Byte × Flags :=
  let t := a.toNat + b.toNat + cin.toNat
  let r := BitVec.ofNat 8 t
  (r, ⟨decide (r = 0#8), false, decide (nibble a + nibble b + cin.toNat > 0xF), decide (t > 0xFF)⟩)

/-- `sub8(a, b, cin)` (R300). -/
def sub8 (a b : Byte) (cin : Bool) : Byte × Flags :=
  let t : Int := a.toNat - b.toNat - cin.toNat
  let r := BitVec.ofInt 8 t
  (r, ⟨decide (r = 0#8), true, decide (nibble a < nibble b + cin.toNat),
    decide (a.toNat < b.toNat + cin.toNat)⟩)

/-- The result and flags of an ALU operation on A (R301 to R316); CP discards its difference. -/
def alu (op : AluOp) (a s : Byte) (cin : Bool) : Byte × Flags :=
  match op with
  | .add => add8 a s false
  | .adc => add8 a s cin
  | .sub => sub8 a s false
  | .sbc => sub8 a s cin
  | .and => (a &&& s, ⟨decide (a &&& s = 0#8), false, true, false⟩)
  | .xor => (a ^^^ s, ⟨decide (a ^^^ s = 0#8), false, false, false⟩)
  | .or => (a ||| s, ⟨decide (a ||| s = 0#8), false, false, false⟩)
  | .cp => (a, (sub8 a s false).2)

/-- `INC r8` (R317): C unaffected. -/
def inc8 (v : Byte) (fl : Flags) : Byte × Flags :=
  let r := BitVec.ofNat 8 (v.toNat + 1)
  (r, { fl with z := decide (r = 0#8), n := false, h := decide (nibble v = 0xF) })

/-- `DEC r8` (R318): C unaffected. -/
def dec8 (v : Byte) (fl : Flags) : Byte × Flags :=
  let r := BitVec.ofInt 8 ((v.toNat : Int) - 1)
  (r, { fl with z := decide (r = 0#8), n := true, h := decide (nibble v = 0x0) })

/-- `DAA` (R319): N unaffected. -/
def daa (a : Byte) (fl : Flags) : Byte × Flags :=
  let a0 : Int := a.toNat
  let high := fl.c || (!fl.n && decide (a0 > 0x99))
  let low := fl.h || (!fl.n && decide (nibble a > 0x09))
  let a1 := if high then (if fl.n then a0 - 0x60 else a0 + 0x60) else a0
  let a2 := if low then (if fl.n then a1 - 0x06 else a1 + 0x06) else a1
  let r := BitVec.ofInt 8 a2
  (r, { fl with z := decide (r = 0#8), h := false, c := high })

/-! ## 16-bit arithmetic -/

/-- `ADD HL,rr` (R352): H from bit 11, C from bit 15, Z unaffected. -/
def addHl (a b : Word) (fl : Flags) : Word × Flags :=
  let t := a.toNat + b.toNat
  (BitVec.ofNat 16 t,
    { fl with n := false, c := decide (t > 0xFFFF)
              h := decide ((a &&& 0x0FFF#16).toNat + (b &&& 0x0FFF#16).toNat > 0x0FFF) })

/-- `sp_plus_e8(e)` (R353): H and C from the low-byte addition only. -/
def spPlusE8 (sp : Word) (e : Byte) : Word × Flags :=
  (sp + sext16 e,
    ⟨false, false, decide ((sp &&& 0x000F#16).toNat + nibble e > 0x0F),
      decide ((sp &&& 0x00FF#16).toNat + e.toNat > 0xFF)⟩)

/-! ## Rotates and shifts -/

/-- The result of a rotate or shift and the bit that goes to C (R404 to R411). -/
def rotate (op : RotOp) (v : Byte) (cin : Bool) : Byte × Bool :=
  match op with
  | .rlc => ((v <<< 1) ||| bit8 (v.getLsbD 7), v.getLsbD 7)
  | .rrc => ((v >>> 1) ||| (bit8 (v.getLsbD 0) <<< 7), v.getLsbD 0)
  | .rl => ((v <<< 1) ||| bit8 cin, v.getLsbD 7)
  | .rr => ((v >>> 1) ||| (bit8 cin <<< 7), v.getLsbD 0)
  | .sla => (v <<< 1, v.getLsbD 7)
  | .sra => ((v >>> 1) ||| (v &&& 0x80#8), v.getLsbD 0)
  | .swap => ((v <<< 4) ||| (v >>> 4), false)
  | .srl => (v >>> 1, v.getLsbD 0)

end Sys2Proof.Machine
end

