-- ==== Sys2Proof/Machine/Operands.lean ====
section
/-! DEFINITION. The operand forms of spec/30_encoding.md R103 to R105. -/

namespace Sys2Proof.Machine

/-- `read_r8(n)` (R103): a register, or one bus read at HL. -/
def readR8 (r : R8) (s : State) : Byte × State :=
  match r with
  | .b => (s.b, s)
  | .c => (s.c, s)
  | .d => (s.d, s)
  | .e => (s.e, s)
  | .h => (s.h, s)
  | .l => (s.l, s)
  | .ind => busRead s.hl s
  | .a => (s.a, s)

/-- `write_r8(n, v)` (R103): a register, or one bus write at HL. -/
def writeR8 (r : R8) (v : Byte) (s : State) : State :=
  match r with
  | .b => { s with b := v }
  | .c => { s with c := v }
  | .d => { s with d := v }
  | .e => { s with e := v }
  | .h => { s with h := v }
  | .l => { s with l := v }
  | .ind => busWrite s.hl v s
  | .a => { s with a := v }

/-- `read_rp(n)` (R104). -/
def readRp (r : Rp) (s : State) : Word :=
  match r with
  | .bc => s.bc
  | .de => s.de
  | .hl => s.hl
  | .sp => s.sp

/-- `write_rp(n, v)` (R104). -/
def writeRp (r : Rp) (v : Word) (s : State) : State :=
  match r with
  | .bc => s.setBc v
  | .de => s.setDe v
  | .hl => s.setHl v
  | .sp => s.setSp v

/-- `read_rp2(n)` (R104). -/
def readRp2 (r : Rp2) (s : State) : Word :=
  match r with
  | .bc => s.bc
  | .de => s.de
  | .hl => s.hl
  | .af => s.af

/-- `write_rp2(n, v)` (R104): F is masked (R33). -/
def writeRp2 (r : Rp2) (v : Word) (s : State) : State :=
  match r with
  | .bc => s.setBc v
  | .de => s.setDe v
  | .hl => s.setHl v
  | .af => s.setAf v

/-- `cond(cc)` (R105). -/
def cond (cc : Cc) (s : State) : Bool :=
  match cc with
  | .nz => !s.flags.z
  | .z => s.flags.z
  | .nc => !s.flags.c
  | .c => s.flags.c

end Sys2Proof.Machine
end

