-- ==== Sys2Proof/Machine/Alu16.lean ====
section
/-! DEFINITION. 16-bit arithmetic (spec/43_alu16.md). -/

namespace Sys2Proof.Machine

/-- `INC rr` (R350). -/
def incRp (p : Rp) (s : State) : Result := done 8#32 (writeRp p (readRp p s + 1) s)

/-- `DEC rr` (R351). -/
def decRp (p : Rp) (s : State) : Result := done 8#32 (writeRp p (readRp p s - 1) s)

/-- `ADD HL,rr` (R352). -/
def addHlRp (p : Rp) (s : State) : Result :=
  let r := addHl s.hl (readRp p s) s.flags
  done 8#32 ((s.setHl r.1).setFlags r.2)

/-- INC BC (03): R350. -/
def execIncBc (s : State) : Result := incRp .bc s

/-- ADD HL,BC (09): R352. -/
def execAddHlBc (s : State) : Result := addHlRp .bc s

/-- DEC BC (0B): R351. -/
def execDecBc (s : State) : Result := decRp .bc s

/-- INC DE (13): R350. -/
def execIncDe (s : State) : Result := incRp .de s

/-- ADD HL,DE (19): R352. -/
def execAddHlDe (s : State) : Result := addHlRp .de s

/-- DEC DE (1B): R351. -/
def execDecDe (s : State) : Result := decRp .de s

/-- INC HL (23): R350. -/
def execIncHl (s : State) : Result := incRp .hl s

/-- ADD HL,HL (29): R352. -/
def execAddHlHl (s : State) : Result := addHlRp .hl s

/-- DEC HL (2B): R351. -/
def execDecHl (s : State) : Result := decRp .hl s

/-- INC SP (33): R350. -/
def execIncSp (s : State) : Result := incRp .sp s

/-- ADD HL,SP (39): R352. -/
def execAddHlSp (s : State) : Result := addHlRp .sp s

/-- DEC SP (3B): R351. -/
def execDecSp (s : State) : Result := decRp .sp s

/-- ADD SP,e8 (E8): R354. -/
def execAddSpE8 (e8 : Byte) (s : State) : Result := done 16#32 ((s.setSp (spPlusE8 s.sp e8).1).setFlags (spPlusE8 s.sp e8).2)

/-- LD HL,SP+e8 (F8): R355. -/
def execLdHlSpE8 (e8 : Byte) (s : State) : Result := done 12#32 ((s.setHl (spPlusE8 s.sp e8).1).setFlags (spPlusE8 s.sp e8).2)

end Sys2Proof.Machine
end

