-- ==== Sys2Proof/Machine/Alu8.lean ====
section
/-! DEFINITION. 8-bit arithmetic and logic (spec/42_alu8.md). -/

namespace Sys2Proof.Machine

/-- An ALU operation of A with a value: result to A, all four flags written; flag C is read before any
flag is written (R303). -/
def aluA (op : AluOp) (v : Byte) (n : BitVec 32) (s : State) : Result :=
  let r := alu op s.a v s.flags.c
  done n ((s.setA r.1).setFlags r.2)

/-- The `r8` forms: 4 cycles, 8 with `(HL)` (R301 to R315). -/
def aluR8 (op : AluOp) (z : R8) (s : State) : Result :=
  let v := readR8 z s
  aluA op v.1 (if z = .ind then 8#32 else 4#32) v.2

/-- The `d8` forms: 8 cycles (R302 to R316). -/
def aluD8 (op : AluOp) (v : Byte) (s : State) : Result := aluA op v 8#32 s

/-- `INC r8` (R317): 4 cycles, 12 for `INC (HL)`. -/
def incR8 (y : R8) (s : State) : Result :=
  let v := readR8 y s
  let r := inc8 v.1 s.flags
  done (if y = .ind then 12#32 else 4#32) ((writeR8 y r.1 v.2).setFlags r.2)

/-- `DEC r8` (R318): 4 cycles, 12 for `DEC (HL)`. -/
def decR8 (y : R8) (s : State) : Result :=
  let v := readR8 y s
  let r := dec8 v.1 s.flags
  done (if y = .ind then 12#32 else 4#32) ((writeR8 y r.1 v.2).setFlags r.2)

/-- INC B (04): R317. -/
def execIncB (s : State) : Result := incR8 .b s

/-- DEC B (05): R318. -/
def execDecB (s : State) : Result := decR8 .b s

/-- INC C (0C): R317. -/
def execIncC (s : State) : Result := incR8 .c s

/-- DEC C (0D): R318. -/
def execDecC (s : State) : Result := decR8 .c s

/-- INC D (14): R317. -/
def execIncD (s : State) : Result := incR8 .d s

/-- DEC D (15): R318. -/
def execDecD (s : State) : Result := decR8 .d s

/-- INC E (1C): R317. -/
def execIncE (s : State) : Result := incR8 .e s

/-- DEC E (1D): R318. -/
def execDecE (s : State) : Result := decR8 .e s

/-- INC H (24): R317. -/
def execIncH (s : State) : Result := incR8 .h s

/-- DEC H (25): R318. -/
def execDecH (s : State) : Result := decR8 .h s

/-- DAA (27): R319. -/
def execDaa (s : State) : Result := done 4#32 ((s.setA (daa s.a s.flags).1).setFlags (daa s.a s.flags).2)

/-- INC L (2C): R317. -/
def execIncL (s : State) : Result := incR8 .l s

/-- DEC L (2D): R318. -/
def execDecL (s : State) : Result := decR8 .l s

/-- CPL (2F): R320. -/
def execCpl (s : State) : Result := done 4#32 ((s.setA (s.a ^^^ 0xFF#8)).setFlags { s.flags with n := true, h := true })

/-- INC (HL) (34): R317. -/
def execIncIndHl (s : State) : Result := incR8 .ind s

/-- DEC (HL) (35): R318. -/
def execDecIndHl (s : State) : Result := decR8 .ind s

/-- SCF (37): R321. -/
def execScf (s : State) : Result := done 4#32 (s.setFlags { s.flags with n := false, h := false, c := true })

/-- INC A (3C): R317. -/
def execIncA (s : State) : Result := incR8 .a s

/-- DEC A (3D): R318. -/
def execDecA (s : State) : Result := decR8 .a s

/-- CCF (3F): R322. -/
def execCcf (s : State) : Result := done 4#32 (s.setFlags { s.flags with n := false, h := false, c := !s.flags.c })

/-- ADD A,B (80): R301. -/
def execAddAB (s : State) : Result := aluR8 .add .b s

/-- ADD A,C (81): R301. -/
def execAddAC (s : State) : Result := aluR8 .add .c s

/-- ADD A,D (82): R301. -/
def execAddAD (s : State) : Result := aluR8 .add .d s

/-- ADD A,E (83): R301. -/
def execAddAE (s : State) : Result := aluR8 .add .e s

/-- ADD A,H (84): R301. -/
def execAddAH (s : State) : Result := aluR8 .add .h s

/-- ADD A,L (85): R301. -/
def execAddAL (s : State) : Result := aluR8 .add .l s

/-- ADD A,(HL) (86): R301. -/
def execAddAIndHl (s : State) : Result := aluR8 .add .ind s

/-- ADD A,A (87): R301. -/
def execAddAA (s : State) : Result := aluR8 .add .a s

/-- ADC A,B (88): R303. -/
def execAdcAB (s : State) : Result := aluR8 .adc .b s

/-- ADC A,C (89): R303. -/
def execAdcAC (s : State) : Result := aluR8 .adc .c s

/-- ADC A,D (8A): R303. -/
def execAdcAD (s : State) : Result := aluR8 .adc .d s

/-- ADC A,E (8B): R303. -/
def execAdcAE (s : State) : Result := aluR8 .adc .e s

/-- ADC A,H (8C): R303. -/
def execAdcAH (s : State) : Result := aluR8 .adc .h s

/-- ADC A,L (8D): R303. -/
def execAdcAL (s : State) : Result := aluR8 .adc .l s

/-- ADC A,(HL) (8E): R303. -/
def execAdcAIndHl (s : State) : Result := aluR8 .adc .ind s

/-- ADC A,A (8F): R303. -/
def execAdcAA (s : State) : Result := aluR8 .adc .a s

/-- SUB B (90): R305. -/
def execSubB (s : State) : Result := aluR8 .sub .b s

/-- SUB C (91): R305. -/
def execSubC (s : State) : Result := aluR8 .sub .c s

/-- SUB D (92): R305. -/
def execSubD (s : State) : Result := aluR8 .sub .d s

/-- SUB E (93): R305. -/
def execSubE (s : State) : Result := aluR8 .sub .e s

/-- SUB H (94): R305. -/
def execSubH (s : State) : Result := aluR8 .sub .h s

/-- SUB L (95): R305. -/
def execSubL (s : State) : Result := aluR8 .sub .l s

/-- SUB (HL) (96): R305. -/
def execSubIndHl (s : State) : Result := aluR8 .sub .ind s

/-- SUB A (97): R305. -/
def execSubA (s : State) : Result := aluR8 .sub .a s

/-- SBC A,B (98): R307. -/
def execSbcAB (s : State) : Result := aluR8 .sbc .b s

/-- SBC A,C (99): R307. -/
def execSbcAC (s : State) : Result := aluR8 .sbc .c s

/-- SBC A,D (9A): R307. -/
def execSbcAD (s : State) : Result := aluR8 .sbc .d s

/-- SBC A,E (9B): R307. -/
def execSbcAE (s : State) : Result := aluR8 .sbc .e s

/-- SBC A,H (9C): R307. -/
def execSbcAH (s : State) : Result := aluR8 .sbc .h s

/-- SBC A,L (9D): R307. -/
def execSbcAL (s : State) : Result := aluR8 .sbc .l s

/-- SBC A,(HL) (9E): R307. -/
def execSbcAIndHl (s : State) : Result := aluR8 .sbc .ind s

/-- SBC A,A (9F): R307. -/
def execSbcAA (s : State) : Result := aluR8 .sbc .a s

/-- AND B (A0): R309. -/
def execAndB (s : State) : Result := aluR8 .and .b s

/-- AND C (A1): R309. -/
def execAndC (s : State) : Result := aluR8 .and .c s

/-- AND D (A2): R309. -/
def execAndD (s : State) : Result := aluR8 .and .d s

/-- AND E (A3): R309. -/
def execAndE (s : State) : Result := aluR8 .and .e s

/-- AND H (A4): R309. -/
def execAndH (s : State) : Result := aluR8 .and .h s

/-- AND L (A5): R309. -/
def execAndL (s : State) : Result := aluR8 .and .l s

/-- AND (HL) (A6): R309. -/
def execAndIndHl (s : State) : Result := aluR8 .and .ind s

/-- AND A (A7): R309. -/
def execAndA (s : State) : Result := aluR8 .and .a s

/-- XOR B (A8): R311. -/
def execXorB (s : State) : Result := aluR8 .xor .b s

/-- XOR C (A9): R311. -/
def execXorC (s : State) : Result := aluR8 .xor .c s

/-- XOR D (AA): R311. -/
def execXorD (s : State) : Result := aluR8 .xor .d s

/-- XOR E (AB): R311. -/
def execXorE (s : State) : Result := aluR8 .xor .e s

/-- XOR H (AC): R311. -/
def execXorH (s : State) : Result := aluR8 .xor .h s

/-- XOR L (AD): R311. -/
def execXorL (s : State) : Result := aluR8 .xor .l s

/-- XOR (HL) (AE): R311. -/
def execXorIndHl (s : State) : Result := aluR8 .xor .ind s

/-- XOR A (AF): R311. -/
def execXorA (s : State) : Result := aluR8 .xor .a s

/-- OR B (B0): R313. -/
def execOrB (s : State) : Result := aluR8 .or .b s

/-- OR C (B1): R313. -/
def execOrC (s : State) : Result := aluR8 .or .c s

/-- OR D (B2): R313. -/
def execOrD (s : State) : Result := aluR8 .or .d s

/-- OR E (B3): R313. -/
def execOrE (s : State) : Result := aluR8 .or .e s

/-- OR H (B4): R313. -/
def execOrH (s : State) : Result := aluR8 .or .h s

/-- OR L (B5): R313. -/
def execOrL (s : State) : Result := aluR8 .or .l s

/-- OR (HL) (B6): R313. -/
def execOrIndHl (s : State) : Result := aluR8 .or .ind s

/-- OR A (B7): R313. -/
def execOrA (s : State) : Result := aluR8 .or .a s

/-- CP B (B8): R315. -/
def execCpB (s : State) : Result := aluR8 .cp .b s

/-- CP C (B9): R315. -/
def execCpC (s : State) : Result := aluR8 .cp .c s

/-- CP D (BA): R315. -/
def execCpD (s : State) : Result := aluR8 .cp .d s

/-- CP E (BB): R315. -/
def execCpE (s : State) : Result := aluR8 .cp .e s

/-- CP H (BC): R315. -/
def execCpH (s : State) : Result := aluR8 .cp .h s

/-- CP L (BD): R315. -/
def execCpL (s : State) : Result := aluR8 .cp .l s

/-- CP (HL) (BE): R315. -/
def execCpIndHl (s : State) : Result := aluR8 .cp .ind s

/-- CP A (BF): R315. -/
def execCpA (s : State) : Result := aluR8 .cp .a s

/-- ADD A,d8 (C6): R302. -/
def execAddAD8 (d8 : Byte) (s : State) : Result := aluD8 .add d8 s

/-- ADC A,d8 (CE): R304. -/
def execAdcAD8 (d8 : Byte) (s : State) : Result := aluD8 .adc d8 s

/-- SUB d8 (D6): R306. -/
def execSubD8 (d8 : Byte) (s : State) : Result := aluD8 .sub d8 s

/-- SBC A,d8 (DE): R308. -/
def execSbcAD8 (d8 : Byte) (s : State) : Result := aluD8 .sbc d8 s

/-- AND d8 (E6): R310. -/
def execAndD8 (d8 : Byte) (s : State) : Result := aluD8 .and d8 s

/-- XOR d8 (EE): R312. -/
def execXorD8 (d8 : Byte) (s : State) : Result := aluD8 .xor d8 s

/-- OR d8 (F6): R314. -/
def execOrD8 (d8 : Byte) (s : State) : Result := aluD8 .or d8 s

/-- CP d8 (FE): R316. -/
def execCpD8 (d8 : Byte) (s : State) : Result := aluD8 .cp d8 s

end Sys2Proof.Machine
end

