-- ==== Sys2Proof/Machine/Control.lean ====
section
/-! DEFINITION. Jumps, calls, returns and restarts (spec/46_control.md). No flag is written. PC holds the
address after the instruction (R37). -/

namespace Sys2Proof.Machine

/-- Push PC and go to a target (R505, R510). -/
def call (target : Word) (s : State) : State := (push16 s.pc s).setPc target

/-- Pop PC (R507). -/
def ret (s : State) : State :=
  let v := pop16 s
  v.2.setPc v.1

/-- `JP cc,a16` (R501): 16 cycles taken, 12 not. -/
def jpCc (cc : Cc) (target : Word) (s : State) : Result :=
  if cond cc s then done 16#32 (s.setPc target) else done 12#32 s

/-- `JR cc,e8` (R504): 12 cycles taken, 8 not. -/
def jrCc (cc : Cc) (e : Byte) (s : State) : Result :=
  if cond cc s then done 12#32 (s.setPc (s.pc + sext16 e)) else done 8#32 s

/-- `CALL cc,a16` (R506): 24 cycles taken, 12 not. -/
def callCc (cc : Cc) (target : Word) (s : State) : Result :=
  if cond cc s then done 24#32 (call target s) else done 12#32 s

/-- `RET cc` (R508): 20 cycles taken, 8 not. -/
def retCc (cc : Cc) (s : State) : Result :=
  if cond cc s then done 20#32 (ret s) else done 8#32 s

/-- JR e8 (18): R503. -/
def execJrE8 (e8 : Byte) (s : State) : Result := done 12#32 (s.setPc (s.pc + sext16 e8))

/-- JR NZ,e8 (20): R504. -/
def execJrNzE8 (e8 : Byte) (s : State) : Result := jrCc .nz e8 s

/-- JR Z,e8 (28): R504. -/
def execJrZE8 (e8 : Byte) (s : State) : Result := jrCc .z e8 s

/-- JR NC,e8 (30): R504. -/
def execJrNcE8 (e8 : Byte) (s : State) : Result := jrCc .nc e8 s

/-- JR C,e8 (38): R504. -/
def execJrCE8 (e8 : Byte) (s : State) : Result := jrCc .c e8 s

/-- RET NZ (C0): R508. -/
def execRetNz (s : State) : Result := retCc .nz s

/-- JP NZ,a16 (C2): R501. -/
def execJpNzA16 (a16 : Word) (s : State) : Result := jpCc .nz a16 s

/-- JP a16 (C3): R500. -/
def execJpA16 (a16 : Word) (s : State) : Result := done 16#32 (s.setPc a16)

/-- CALL NZ,a16 (C4): R506. -/
def execCallNzA16 (a16 : Word) (s : State) : Result := callCc .nz a16 s

/-- RST 0x00 (C7): R510. -/
def execRst00 (s : State) : Result := done 16#32 (call 0x0000#16 s)

/-- RET Z (C8): R508. -/
def execRetZ (s : State) : Result := retCc .z s

/-- RET (C9): R507. -/
def execRet (s : State) : Result := done 16#32 (ret s)

/-- JP Z,a16 (CA): R501. -/
def execJpZA16 (a16 : Word) (s : State) : Result := jpCc .z a16 s

/-- CALL Z,a16 (CC): R506. -/
def execCallZA16 (a16 : Word) (s : State) : Result := callCc .z a16 s

/-- CALL a16 (CD): R505. -/
def execCallA16 (a16 : Word) (s : State) : Result := done 24#32 (call a16 s)

/-- RST 0x08 (CF): R510. -/
def execRst08 (s : State) : Result := done 16#32 (call 0x0008#16 s)

/-- RET NC (D0): R508. -/
def execRetNc (s : State) : Result := retCc .nc s

/-- JP NC,a16 (D2): R501. -/
def execJpNcA16 (a16 : Word) (s : State) : Result := jpCc .nc a16 s

/-- CALL NC,a16 (D4): R506. -/
def execCallNcA16 (a16 : Word) (s : State) : Result := callCc .nc a16 s

/-- RST 0x10 (D7): R510. -/
def execRst10 (s : State) : Result := done 16#32 (call 0x0010#16 s)

/-- RET C (D8): R508. -/
def execRetC (s : State) : Result := retCc .c s

/-- RETI (D9): R509. -/
def execReti (s : State) : Result := done 16#32 (returnFromInterrupt s)

/-- JP C,a16 (DA): R501. -/
def execJpCA16 (a16 : Word) (s : State) : Result := jpCc .c a16 s

/-- CALL C,a16 (DC): R506. -/
def execCallCA16 (a16 : Word) (s : State) : Result := callCc .c a16 s

/-- RST 0x18 (DF): R510. -/
def execRst18 (s : State) : Result := done 16#32 (call 0x0018#16 s)

/-- RST 0x20 (E7): R510. -/
def execRst20 (s : State) : Result := done 16#32 (call 0x0020#16 s)

/-- JP HL (E9): R502. -/
def execJpHl (s : State) : Result := done 4#32 (s.setPc s.hl)

/-- RST 0x28 (EF): R510. -/
def execRst28 (s : State) : Result := done 16#32 (call 0x0028#16 s)

/-- RST 0x30 (F7): R510. -/
def execRst30 (s : State) : Result := done 16#32 (call 0x0030#16 s)

/-- RST 0x38 (FF): R510. -/
def execRst38 (s : State) : Result := done 16#32 (call 0x0038#16 s)

end Sys2Proof.Machine
end

