-- ==== Sys2Proof/Machine/Load16.lean ====
section
/-! DEFINITION. 16-bit loads and the stack (spec/41_load16_stack.md). Only POP AF writes flags. -/

namespace Sys2Proof.Machine

/-- `LD rr,d16` (R250). -/
def ldRpD16 (p : Rp) (n : Word) (s : State) : Result := done 12#32 (writeRp p n s)

/-- `PUSH rr` (R253). -/
def pushRp2 (p : Rp2) (s : State) : Result := done 16#32 (push16 (readRp2 p s) s)

/-- `POP rr` (R254), `POP AF` (R255). -/
def popRp2 (p : Rp2) (s : State) : Result :=
  let v := pop16 s
  done 12#32 (writeRp2 p v.1 v.2)

/-- LD BC,d16 (01): R250. -/
def execLdBcD16 (d16 : Word) (s : State) : Result := ldRpD16 .bc d16 s

/-- LD (a16),SP (08): R251. -/
def execLdIndA16Sp (a16 : Word) (s : State) : Result := done 20#32 (busWrite (a16 + 1) (hi8 s.sp) (busWrite a16 (lo8 s.sp) s))

/-- LD DE,d16 (11): R250. -/
def execLdDeD16 (d16 : Word) (s : State) : Result := ldRpD16 .de d16 s

/-- LD HL,d16 (21): R250. -/
def execLdHlD16 (d16 : Word) (s : State) : Result := ldRpD16 .hl d16 s

/-- LD SP,d16 (31): R250. -/
def execLdSpD16 (d16 : Word) (s : State) : Result := ldRpD16 .sp d16 s

/-- POP BC (C1): R254. -/
def execPopBc (s : State) : Result := popRp2 .bc s

/-- PUSH BC (C5): R253. -/
def execPushBc (s : State) : Result := pushRp2 .bc s

/-- POP DE (D1): R254. -/
def execPopDe (s : State) : Result := popRp2 .de s

/-- PUSH DE (D5): R253. -/
def execPushDe (s : State) : Result := pushRp2 .de s

/-- POP HL (E1): R254. -/
def execPopHl (s : State) : Result := popRp2 .hl s

/-- PUSH HL (E5): R253. -/
def execPushHl (s : State) : Result := pushRp2 .hl s

/-- POP AF (F1): R255. -/
def execPopAf (s : State) : Result := popRp2 .af s

/-- PUSH AF (F5): R253. -/
def execPushAf (s : State) : Result := pushRp2 .af s

/-- LD SP,HL (F9): R252. -/
def execLdSpHl (s : State) : Result := done 8#32 (s.setSp s.hl)

end Sys2Proof.Machine
end

