-- ==== Sys2Proof/Machine/Load8.lean ====
section
/-! DEFINITION. 8-bit loads (spec/40_load8.md). No flag is written. -/

namespace Sys2Proof.Machine

/-- `LD r8,r8'` (R200): 4 cycles, 8 with `(HL)`. -/
def ldR8R8 (y z : R8) (s : State) : Result :=
  let v := readR8 z s
  done (if y = .ind ∨ z = .ind then 8#32 else 4#32) (writeR8 y v.1 v.2)

/-- `LD r8,d8` (R201): 8 cycles, 12 for `LD (HL),d8`. -/
def ldR8D8 (y : R8) (n : Byte) (s : State) : Result :=
  done (if y = .ind then 12#32 else 8#32) (writeR8 y n s)

/-- Load A from an address (R202, R203, R206, R208, R210). -/
def loadA (addr : Word) (n : BitVec 32) (s : State) : Result :=
  let v := busRead addr s
  done n (v.2.setA v.1)

/-- Store A at an address (R204, R205, R207, R209, R211). -/
def storeA (addr : Word) (n : BitVec 32) (s : State) : Result :=
  done n (busWrite addr s.a s)

/-- Load A from HL, then HL becomes `hl'` (R214, R215). -/
def loadAStep (hl' : Word) (s : State) : Result :=
  let v := busRead s.hl s
  done 8#32 ((v.2.setA v.1).setHl hl')

/-- Store A at HL, then HL becomes `hl'` (R212, R213). -/
def storeAStep (hl' : Word) (s : State) : Result :=
  done 8#32 ((busWrite s.hl s.a s).setHl hl')

/-- LD (BC),A (02): R204. -/
def execLdIndBcA (s : State) : Result := storeA s.bc 8#32 s

/-- LD B,d8 (06): R201. -/
def execLdBD8 (d8 : Byte) (s : State) : Result := ldR8D8 .b d8 s

/-- LD A,(BC) (0A): R202. -/
def execLdAIndBc (s : State) : Result := loadA s.bc 8#32 s

/-- LD C,d8 (0E): R201. -/
def execLdCD8 (d8 : Byte) (s : State) : Result := ldR8D8 .c d8 s

/-- LD (DE),A (12): R205. -/
def execLdIndDeA (s : State) : Result := storeA s.de 8#32 s

/-- LD D,d8 (16): R201. -/
def execLdDD8 (d8 : Byte) (s : State) : Result := ldR8D8 .d d8 s

/-- LD A,(DE) (1A): R203. -/
def execLdAIndDe (s : State) : Result := loadA s.de 8#32 s

/-- LD E,d8 (1E): R201. -/
def execLdED8 (d8 : Byte) (s : State) : Result := ldR8D8 .e d8 s

/-- LD (HL+),A (22): R212. -/
def execLdIndHlIncA (s : State) : Result := storeAStep (s.hl + 1) s

/-- LD H,d8 (26): R201. -/
def execLdHD8 (d8 : Byte) (s : State) : Result := ldR8D8 .h d8 s

/-- LD A,(HL+) (2A): R214. -/
def execLdAIndHlInc (s : State) : Result := loadAStep (s.hl + 1) s

/-- LD L,d8 (2E): R201. -/
def execLdLD8 (d8 : Byte) (s : State) : Result := ldR8D8 .l d8 s

/-- LD (HL-),A (32): R213. -/
def execLdIndHlDecA (s : State) : Result := storeAStep (s.hl - 1) s

/-- LD (HL),d8 (36): R201. -/
def execLdIndHlD8 (d8 : Byte) (s : State) : Result := ldR8D8 .ind d8 s

/-- LD A,(HL-) (3A): R215. -/
def execLdAIndHlDec (s : State) : Result := loadAStep (s.hl - 1) s

/-- LD A,d8 (3E): R201. -/
def execLdAD8 (d8 : Byte) (s : State) : Result := ldR8D8 .a d8 s

/-- LD B,B (40): R200. -/
def execLdBB (s : State) : Result := ldR8R8 .b .b s

/-- LD B,C (41): R200. -/
def execLdBC (s : State) : Result := ldR8R8 .b .c s

/-- LD B,D (42): R200. -/
def execLdBD (s : State) : Result := ldR8R8 .b .d s

/-- LD B,E (43): R200. -/
def execLdBE (s : State) : Result := ldR8R8 .b .e s

/-- LD B,H (44): R200. -/
def execLdBH (s : State) : Result := ldR8R8 .b .h s

/-- LD B,L (45): R200. -/
def execLdBL (s : State) : Result := ldR8R8 .b .l s

/-- LD B,(HL) (46): R200. -/
def execLdBIndHl (s : State) : Result := ldR8R8 .b .ind s

/-- LD B,A (47): R200. -/
def execLdBA (s : State) : Result := ldR8R8 .b .a s

/-- LD C,B (48): R200. -/
def execLdCB (s : State) : Result := ldR8R8 .c .b s

/-- LD C,C (49): R200. -/
def execLdCC (s : State) : Result := ldR8R8 .c .c s

/-- LD C,D (4A): R200. -/
def execLdCD (s : State) : Result := ldR8R8 .c .d s

/-- LD C,E (4B): R200. -/
def execLdCE (s : State) : Result := ldR8R8 .c .e s

/-- LD C,H (4C): R200. -/
def execLdCH (s : State) : Result := ldR8R8 .c .h s

/-- LD C,L (4D): R200. -/
def execLdCL (s : State) : Result := ldR8R8 .c .l s

/-- LD C,(HL) (4E): R200. -/
def execLdCIndHl (s : State) : Result := ldR8R8 .c .ind s

/-- LD C,A (4F): R200. -/
def execLdCA (s : State) : Result := ldR8R8 .c .a s

/-- LD D,B (50): R200. -/
def execLdDB (s : State) : Result := ldR8R8 .d .b s

/-- LD D,C (51): R200. -/
def execLdDC (s : State) : Result := ldR8R8 .d .c s

/-- LD D,D (52): R200. -/
def execLdDD (s : State) : Result := ldR8R8 .d .d s

/-- LD D,E (53): R200. -/
def execLdDE (s : State) : Result := ldR8R8 .d .e s

/-- LD D,H (54): R200. -/
def execLdDH (s : State) : Result := ldR8R8 .d .h s

/-- LD D,L (55): R200. -/
def execLdDL (s : State) : Result := ldR8R8 .d .l s

/-- LD D,(HL) (56): R200. -/
def execLdDIndHl (s : State) : Result := ldR8R8 .d .ind s

/-- LD D,A (57): R200. -/
def execLdDA (s : State) : Result := ldR8R8 .d .a s

/-- LD E,B (58): R200. -/
def execLdEB (s : State) : Result := ldR8R8 .e .b s

/-- LD E,C (59): R200. -/
def execLdEC (s : State) : Result := ldR8R8 .e .c s

/-- LD E,D (5A): R200. -/
def execLdED (s : State) : Result := ldR8R8 .e .d s

/-- LD E,E (5B): R200. -/
def execLdEE (s : State) : Result := ldR8R8 .e .e s

/-- LD E,H (5C): R200. -/
def execLdEH (s : State) : Result := ldR8R8 .e .h s

/-- LD E,L (5D): R200. -/
def execLdEL (s : State) : Result := ldR8R8 .e .l s

/-- LD E,(HL) (5E): R200. -/
def execLdEIndHl (s : State) : Result := ldR8R8 .e .ind s

/-- LD E,A (5F): R200. -/
def execLdEA (s : State) : Result := ldR8R8 .e .a s

/-- LD H,B (60): R200. -/
def execLdHB (s : State) : Result := ldR8R8 .h .b s

/-- LD H,C (61): R200. -/
def execLdHC (s : State) : Result := ldR8R8 .h .c s

/-- LD H,D (62): R200. -/
def execLdHD (s : State) : Result := ldR8R8 .h .d s

/-- LD H,E (63): R200. -/
def execLdHE (s : State) : Result := ldR8R8 .h .e s

/-- LD H,H (64): R200. -/
def execLdHH (s : State) : Result := ldR8R8 .h .h s

/-- LD H,L (65): R200. -/
def execLdHL (s : State) : Result := ldR8R8 .h .l s

/-- LD H,(HL) (66): R200. -/
def execLdHIndHl (s : State) : Result := ldR8R8 .h .ind s

/-- LD H,A (67): R200. -/
def execLdHA (s : State) : Result := ldR8R8 .h .a s

/-- LD L,B (68): R200. -/
def execLdLB (s : State) : Result := ldR8R8 .l .b s

/-- LD L,C (69): R200. -/
def execLdLC (s : State) : Result := ldR8R8 .l .c s

/-- LD L,D (6A): R200. -/
def execLdLD (s : State) : Result := ldR8R8 .l .d s

/-- LD L,E (6B): R200. -/
def execLdLE (s : State) : Result := ldR8R8 .l .e s

/-- LD L,H (6C): R200. -/
def execLdLH (s : State) : Result := ldR8R8 .l .h s

/-- LD L,L (6D): R200. -/
def execLdLL (s : State) : Result := ldR8R8 .l .l s

/-- LD L,(HL) (6E): R200. -/
def execLdLIndHl (s : State) : Result := ldR8R8 .l .ind s

/-- LD L,A (6F): R200. -/
def execLdLA (s : State) : Result := ldR8R8 .l .a s

/-- LD (HL),B (70): R200. -/
def execLdIndHlB (s : State) : Result := ldR8R8 .ind .b s

/-- LD (HL),C (71): R200. -/
def execLdIndHlC (s : State) : Result := ldR8R8 .ind .c s

/-- LD (HL),D (72): R200. -/
def execLdIndHlD (s : State) : Result := ldR8R8 .ind .d s

/-- LD (HL),E (73): R200. -/
def execLdIndHlE (s : State) : Result := ldR8R8 .ind .e s

/-- LD (HL),H (74): R200. -/
def execLdIndHlH (s : State) : Result := ldR8R8 .ind .h s

/-- LD (HL),L (75): R200. -/
def execLdIndHlL (s : State) : Result := ldR8R8 .ind .l s

/-- LD (HL),A (77): R200. -/
def execLdIndHlA (s : State) : Result := ldR8R8 .ind .a s

/-- LD A,B (78): R200. -/
def execLdAB (s : State) : Result := ldR8R8 .a .b s

/-- LD A,C (79): R200. -/
def execLdAC (s : State) : Result := ldR8R8 .a .c s

/-- LD A,D (7A): R200. -/
def execLdAD (s : State) : Result := ldR8R8 .a .d s

/-- LD A,E (7B): R200. -/
def execLdAE (s : State) : Result := ldR8R8 .a .e s

/-- LD A,H (7C): R200. -/
def execLdAH (s : State) : Result := ldR8R8 .a .h s

/-- LD A,L (7D): R200. -/
def execLdAL (s : State) : Result := ldR8R8 .a .l s

/-- LD A,(HL) (7E): R200. -/
def execLdAIndHl (s : State) : Result := ldR8R8 .a .ind s

/-- LD A,A (7F): R200. -/
def execLdAA (s : State) : Result := ldR8R8 .a .a s

/-- LDH (a8),A (E0): R209. -/
def execLdhIndA8A (a8 : Byte) (s : State) : Result := storeA (pageAddr a8) 12#32 s

/-- LD (C),A (E2): R211. -/
def execLdIndCA (s : State) : Result := storeA (pageAddr s.c) 8#32 s

/-- LD (a16),A (EA): R207. -/
def execLdIndA16A (a16 : Word) (s : State) : Result := storeA a16 16#32 s

/-- LDH A,(a8) (F0): R208. -/
def execLdhAIndA8 (a8 : Byte) (s : State) : Result := loadA (pageAddr a8) 12#32 s

/-- LD A,(C) (F2): R210. -/
def execLdAIndC (s : State) : Result := loadA (pageAddr s.c) 8#32 s

/-- LD A,(a16) (FA): R206. -/
def execLdAIndA16 (a16 : Word) (s : State) : Result := loadA a16 16#32 s

end Sys2Proof.Machine
end

