-- ==== Sys2Proof/Machine/Bit.lean ====
section
/-! DEFINITION. Single-bit test, reset and set (spec/45_bit.md). -/

namespace Sys2Proof.Machine

/-- `BIT b,r8` (R450): the operand is not written; flag C is kept; 8 cycles, 12 with `(HL)`. -/
def bitR8 (b : Nat) (z : R8) (s : State) : Result :=
  let v := readR8 z s
  done (if z = .ind then 12#32 else 8#32)
    (v.2.setFlags { s.flags with z := !v.1.getLsbD b, n := false, h := true })

/-- `RES b,r8` (R451): 8 cycles, 16 with `(HL)`. -/
def resR8 (b : Nat) (z : R8) (s : State) : Result :=
  let v := readR8 z s
  done (if z = .ind then 16#32 else 8#32) (writeR8 z (v.1 &&& ~~~(1#8 <<< b)) v.2)

/-- `SET b,r8` (R452): 8 cycles, 16 with `(HL)`. -/
def setR8 (b : Nat) (z : R8) (s : State) : Result :=
  let v := readR8 z s
  done (if z = .ind then 16#32 else 8#32) (writeR8 z (v.1 ||| (1#8 <<< b)) v.2)

/-- BIT 0,B (CB 40): R450. -/
def execBit0B (s : State) : Result := bitR8 0 .b s

/-- BIT 0,C (CB 41): R450. -/
def execBit0C (s : State) : Result := bitR8 0 .c s

/-- BIT 0,D (CB 42): R450. -/
def execBit0D (s : State) : Result := bitR8 0 .d s

/-- BIT 0,E (CB 43): R450. -/
def execBit0E (s : State) : Result := bitR8 0 .e s

/-- BIT 0,H (CB 44): R450. -/
def execBit0H (s : State) : Result := bitR8 0 .h s

/-- BIT 0,L (CB 45): R450. -/
def execBit0L (s : State) : Result := bitR8 0 .l s

/-- BIT 0,(HL) (CB 46): R450. -/
def execBit0IndHl (s : State) : Result := bitR8 0 .ind s

/-- BIT 0,A (CB 47): R450. -/
def execBit0A (s : State) : Result := bitR8 0 .a s

/-- BIT 1,B (CB 48): R450. -/
def execBit1B (s : State) : Result := bitR8 1 .b s

/-- BIT 1,C (CB 49): R450. -/
def execBit1C (s : State) : Result := bitR8 1 .c s

/-- BIT 1,D (CB 4A): R450. -/
def execBit1D (s : State) : Result := bitR8 1 .d s

/-- BIT 1,E (CB 4B): R450. -/
def execBit1E (s : State) : Result := bitR8 1 .e s

/-- BIT 1,H (CB 4C): R450. -/
def execBit1H (s : State) : Result := bitR8 1 .h s

/-- BIT 1,L (CB 4D): R450. -/
def execBit1L (s : State) : Result := bitR8 1 .l s

/-- BIT 1,(HL) (CB 4E): R450. -/
def execBit1IndHl (s : State) : Result := bitR8 1 .ind s

/-- BIT 1,A (CB 4F): R450. -/
def execBit1A (s : State) : Result := bitR8 1 .a s

/-- BIT 2,B (CB 50): R450. -/
def execBit2B (s : State) : Result := bitR8 2 .b s

/-- BIT 2,C (CB 51): R450. -/
def execBit2C (s : State) : Result := bitR8 2 .c s

/-- BIT 2,D (CB 52): R450. -/
def execBit2D (s : State) : Result := bitR8 2 .d s

/-- BIT 2,E (CB 53): R450. -/
def execBit2E (s : State) : Result := bitR8 2 .e s

/-- BIT 2,H (CB 54): R450. -/
def execBit2H (s : State) : Result := bitR8 2 .h s

/-- BIT 2,L (CB 55): R450. -/
def execBit2L (s : State) : Result := bitR8 2 .l s

/-- BIT 2,(HL) (CB 56): R450. -/
def execBit2IndHl (s : State) : Result := bitR8 2 .ind s

/-- BIT 2,A (CB 57): R450. -/
def execBit2A (s : State) : Result := bitR8 2 .a s

/-- BIT 3,B (CB 58): R450. -/
def execBit3B (s : State) : Result := bitR8 3 .b s

/-- BIT 3,C (CB 59): R450. -/
def execBit3C (s : State) : Result := bitR8 3 .c s

/-- BIT 3,D (CB 5A): R450. -/
def execBit3D (s : State) : Result := bitR8 3 .d s

/-- BIT 3,E (CB 5B): R450. -/
def execBit3E (s : State) : Result := bitR8 3 .e s

/-- BIT 3,H (CB 5C): R450. -/
def execBit3H (s : State) : Result := bitR8 3 .h s

/-- BIT 3,L (CB 5D): R450. -/
def execBit3L (s : State) : Result := bitR8 3 .l s

/-- BIT 3,(HL) (CB 5E): R450. -/
def execBit3IndHl (s : State) : Result := bitR8 3 .ind s

/-- BIT 3,A (CB 5F): R450. -/
def execBit3A (s : State) : Result := bitR8 3 .a s

/-- BIT 4,B (CB 60): R450. -/
def execBit4B (s : State) : Result := bitR8 4 .b s

/-- BIT 4,C (CB 61): R450. -/
def execBit4C (s : State) : Result := bitR8 4 .c s

/-- BIT 4,D (CB 62): R450. -/
def execBit4D (s : State) : Result := bitR8 4 .d s

/-- BIT 4,E (CB 63): R450. -/
def execBit4E (s : State) : Result := bitR8 4 .e s

/-- BIT 4,H (CB 64): R450. -/
def execBit4H (s : State) : Result := bitR8 4 .h s

/-- BIT 4,L (CB 65): R450. -/
def execBit4L (s : State) : Result := bitR8 4 .l s

/-- BIT 4,(HL) (CB 66): R450. -/
def execBit4IndHl (s : State) : Result := bitR8 4 .ind s

/-- BIT 4,A (CB 67): R450. -/
def execBit4A (s : State) : Result := bitR8 4 .a s

/-- BIT 5,B (CB 68): R450. -/
def execBit5B (s : State) : Result := bitR8 5 .b s

/-- BIT 5,C (CB 69): R450. -/
def execBit5C (s : State) : Result := bitR8 5 .c s

/-- BIT 5,D (CB 6A): R450. -/
def execBit5D (s : State) : Result := bitR8 5 .d s

/-- BIT 5,E (CB 6B): R450. -/
def execBit5E (s : State) : Result := bitR8 5 .e s

/-- BIT 5,H (CB 6C): R450. -/
def execBit5H (s : State) : Result := bitR8 5 .h s

/-- BIT 5,L (CB 6D): R450. -/
def execBit5L (s : State) : Result := bitR8 5 .l s

/-- BIT 5,(HL) (CB 6E): R450. -/
def execBit5IndHl (s : State) : Result := bitR8 5 .ind s

/-- BIT 5,A (CB 6F): R450. -/
def execBit5A (s : State) : Result := bitR8 5 .a s

/-- BIT 6,B (CB 70): R450. -/
def execBit6B (s : State) : Result := bitR8 6 .b s

/-- BIT 6,C (CB 71): R450. -/
def execBit6C (s : State) : Result := bitR8 6 .c s

/-- BIT 6,D (CB 72): R450. -/
def execBit6D (s : State) : Result := bitR8 6 .d s

/-- BIT 6,E (CB 73): R450. -/
def execBit6E (s : State) : Result := bitR8 6 .e s

/-- BIT 6,H (CB 74): R450. -/
def execBit6H (s : State) : Result := bitR8 6 .h s

/-- BIT 6,L (CB 75): R450. -/
def execBit6L (s : State) : Result := bitR8 6 .l s

/-- BIT 6,(HL) (CB 76): R450. -/
def execBit6IndHl (s : State) : Result := bitR8 6 .ind s

/-- BIT 6,A (CB 77): R450. -/
def execBit6A (s : State) : Result := bitR8 6 .a s

/-- BIT 7,B (CB 78): R450. -/
def execBit7B (s : State) : Result := bitR8 7 .b s

/-- BIT 7,C (CB 79): R450. -/
def execBit7C (s : State) : Result := bitR8 7 .c s

/-- BIT 7,D (CB 7A): R450. -/
def execBit7D (s : State) : Result := bitR8 7 .d s

/-- BIT 7,E (CB 7B): R450. -/
def execBit7E (s : State) : Result := bitR8 7 .e s

/-- BIT 7,H (CB 7C): R450. -/
def execBit7H (s : State) : Result := bitR8 7 .h s

/-- BIT 7,L (CB 7D): R450. -/
def execBit7L (s : State) : Result := bitR8 7 .l s

/-- BIT 7,(HL) (CB 7E): R450. -/
def execBit7IndHl (s : State) : Result := bitR8 7 .ind s

/-- BIT 7,A (CB 7F): R450. -/
def execBit7A (s : State) : Result := bitR8 7 .a s

/-- RES 0,B (CB 80): R451. -/
def execRes0B (s : State) : Result := resR8 0 .b s

/-- RES 0,C (CB 81): R451. -/
def execRes0C (s : State) : Result := resR8 0 .c s

/-- RES 0,D (CB 82): R451. -/
def execRes0D (s : State) : Result := resR8 0 .d s

/-- RES 0,E (CB 83): R451. -/
def execRes0E (s : State) : Result := resR8 0 .e s

/-- RES 0,H (CB 84): R451. -/
def execRes0H (s : State) : Result := resR8 0 .h s

/-- RES 0,L (CB 85): R451. -/
def execRes0L (s : State) : Result := resR8 0 .l s

/-- RES 0,(HL) (CB 86): R451. -/
def execRes0IndHl (s : State) : Result := resR8 0 .ind s

/-- RES 0,A (CB 87): R451. -/
def execRes0A (s : State) : Result := resR8 0 .a s

/-- RES 1,B (CB 88): R451. -/
def execRes1B (s : State) : Result := resR8 1 .b s

/-- RES 1,C (CB 89): R451. -/
def execRes1C (s : State) : Result := resR8 1 .c s

/-- RES 1,D (CB 8A): R451. -/
def execRes1D (s : State) : Result := resR8 1 .d s

/-- RES 1,E (CB 8B): R451. -/
def execRes1E (s : State) : Result := resR8 1 .e s

/-- RES 1,H (CB 8C): R451. -/
def execRes1H (s : State) : Result := resR8 1 .h s

/-- RES 1,L (CB 8D): R451. -/
def execRes1L (s : State) : Result := resR8 1 .l s

/-- RES 1,(HL) (CB 8E): R451. -/
def execRes1IndHl (s : State) : Result := resR8 1 .ind s

/-- RES 1,A (CB 8F): R451. -/
def execRes1A (s : State) : Result := resR8 1 .a s

/-- RES 2,B (CB 90): R451. -/
def execRes2B (s : State) : Result := resR8 2 .b s

/-- RES 2,C (CB 91): R451. -/
def execRes2C (s : State) : Result := resR8 2 .c s

/-- RES 2,D (CB 92): R451. -/
def execRes2D (s : State) : Result := resR8 2 .d s

/-- RES 2,E (CB 93): R451. -/
def execRes2E (s : State) : Result := resR8 2 .e s

/-- RES 2,H (CB 94): R451. -/
def execRes2H (s : State) : Result := resR8 2 .h s

/-- RES 2,L (CB 95): R451. -/
def execRes2L (s : State) : Result := resR8 2 .l s

/-- RES 2,(HL) (CB 96): R451. -/
def execRes2IndHl (s : State) : Result := resR8 2 .ind s

/-- RES 2,A (CB 97): R451. -/
def execRes2A (s : State) : Result := resR8 2 .a s

/-- RES 3,B (CB 98): R451. -/
def execRes3B (s : State) : Result := resR8 3 .b s

/-- RES 3,C (CB 99): R451. -/
def execRes3C (s : State) : Result := resR8 3 .c s

/-- RES 3,D (CB 9A): R451. -/
def execRes3D (s : State) : Result := resR8 3 .d s

/-- RES 3,E (CB 9B): R451. -/
def execRes3E (s : State) : Result := resR8 3 .e s

/-- RES 3,H (CB 9C): R451. -/
def execRes3H (s : State) : Result := resR8 3 .h s

/-- RES 3,L (CB 9D): R451. -/
def execRes3L (s : State) : Result := resR8 3 .l s

/-- RES 3,(HL) (CB 9E): R451. -/
def execRes3IndHl (s : State) : Result := resR8 3 .ind s

/-- RES 3,A (CB 9F): R451. -/
def execRes3A (s : State) : Result := resR8 3 .a s

/-- RES 4,B (CB A0): R451. -/
def execRes4B (s : State) : Result := resR8 4 .b s

/-- RES 4,C (CB A1): R451. -/
def execRes4C (s : State) : Result := resR8 4 .c s

/-- RES 4,D (CB A2): R451. -/
def execRes4D (s : State) : Result := resR8 4 .d s

/-- RES 4,E (CB A3): R451. -/
def execRes4E (s : State) : Result := resR8 4 .e s

/-- RES 4,H (CB A4): R451. -/
def execRes4H (s : State) : Result := resR8 4 .h s

/-- RES 4,L (CB A5): R451. -/
def execRes4L (s : State) : Result := resR8 4 .l s

/-- RES 4,(HL) (CB A6): R451. -/
def execRes4IndHl (s : State) : Result := resR8 4 .ind s

/-- RES 4,A (CB A7): R451. -/
def execRes4A (s : State) : Result := resR8 4 .a s

/-- RES 5,B (CB A8): R451. -/
def execRes5B (s : State) : Result := resR8 5 .b s

/-- RES 5,C (CB A9): R451. -/
def execRes5C (s : State) : Result := resR8 5 .c s

/-- RES 5,D (CB AA): R451. -/
def execRes5D (s : State) : Result := resR8 5 .d s

/-- RES 5,E (CB AB): R451. -/
def execRes5E (s : State) : Result := resR8 5 .e s

/-- RES 5,H (CB AC): R451. -/
def execRes5H (s : State) : Result := resR8 5 .h s

/-- RES 5,L (CB AD): R451. -/
def execRes5L (s : State) : Result := resR8 5 .l s

/-- RES 5,(HL) (CB AE): R451. -/
def execRes5IndHl (s : State) : Result := resR8 5 .ind s

/-- RES 5,A (CB AF): R451. -/
def execRes5A (s : State) : Result := resR8 5 .a s

/-- RES 6,B (CB B0): R451. -/
def execRes6B (s : State) : Result := resR8 6 .b s

/-- RES 6,C (CB B1): R451. -/
def execRes6C (s : State) : Result := resR8 6 .c s

/-- RES 6,D (CB B2): R451. -/
def execRes6D (s : State) : Result := resR8 6 .d s

/-- RES 6,E (CB B3): R451. -/
def execRes6E (s : State) : Result := resR8 6 .e s

/-- RES 6,H (CB B4): R451. -/
def execRes6H (s : State) : Result := resR8 6 .h s

/-- RES 6,L (CB B5): R451. -/
def execRes6L (s : State) : Result := resR8 6 .l s

/-- RES 6,(HL) (CB B6): R451. -/
def execRes6IndHl (s : State) : Result := resR8 6 .ind s

/-- RES 6,A (CB B7): R451. -/
def execRes6A (s : State) : Result := resR8 6 .a s

/-- RES 7,B (CB B8): R451. -/
def execRes7B (s : State) : Result := resR8 7 .b s

/-- RES 7,C (CB B9): R451. -/
def execRes7C (s : State) : Result := resR8 7 .c s

/-- RES 7,D (CB BA): R451. -/
def execRes7D (s : State) : Result := resR8 7 .d s

/-- RES 7,E (CB BB): R451. -/
def execRes7E (s : State) : Result := resR8 7 .e s

/-- RES 7,H (CB BC): R451. -/
def execRes7H (s : State) : Result := resR8 7 .h s

/-- RES 7,L (CB BD): R451. -/
def execRes7L (s : State) : Result := resR8 7 .l s

/-- RES 7,(HL) (CB BE): R451. -/
def execRes7IndHl (s : State) : Result := resR8 7 .ind s

/-- RES 7,A (CB BF): R451. -/
def execRes7A (s : State) : Result := resR8 7 .a s

/-- SET 0,B (CB C0): R452. -/
def execSet0B (s : State) : Result := setR8 0 .b s

/-- SET 0,C (CB C1): R452. -/
def execSet0C (s : State) : Result := setR8 0 .c s

/-- SET 0,D (CB C2): R452. -/
def execSet0D (s : State) : Result := setR8 0 .d s

/-- SET 0,E (CB C3): R452. -/
def execSet0E (s : State) : Result := setR8 0 .e s

/-- SET 0,H (CB C4): R452. -/
def execSet0H (s : State) : Result := setR8 0 .h s

/-- SET 0,L (CB C5): R452. -/
def execSet0L (s : State) : Result := setR8 0 .l s

/-- SET 0,(HL) (CB C6): R452. -/
def execSet0IndHl (s : State) : Result := setR8 0 .ind s

/-- SET 0,A (CB C7): R452. -/
def execSet0A (s : State) : Result := setR8 0 .a s

/-- SET 1,B (CB C8): R452. -/
def execSet1B (s : State) : Result := setR8 1 .b s

/-- SET 1,C (CB C9): R452. -/
def execSet1C (s : State) : Result := setR8 1 .c s

/-- SET 1,D (CB CA): R452. -/
def execSet1D (s : State) : Result := setR8 1 .d s

/-- SET 1,E (CB CB): R452. -/
def execSet1E (s : State) : Result := setR8 1 .e s

/-- SET 1,H (CB CC): R452. -/
def execSet1H (s : State) : Result := setR8 1 .h s

/-- SET 1,L (CB CD): R452. -/
def execSet1L (s : State) : Result := setR8 1 .l s

/-- SET 1,(HL) (CB CE): R452. -/
def execSet1IndHl (s : State) : Result := setR8 1 .ind s

/-- SET 1,A (CB CF): R452. -/
def execSet1A (s : State) : Result := setR8 1 .a s

/-- SET 2,B (CB D0): R452. -/
def execSet2B (s : State) : Result := setR8 2 .b s

/-- SET 2,C (CB D1): R452. -/
def execSet2C (s : State) : Result := setR8 2 .c s

/-- SET 2,D (CB D2): R452. -/
def execSet2D (s : State) : Result := setR8 2 .d s

/-- SET 2,E (CB D3): R452. -/
def execSet2E (s : State) : Result := setR8 2 .e s

/-- SET 2,H (CB D4): R452. -/
def execSet2H (s : State) : Result := setR8 2 .h s

/-- SET 2,L (CB D5): R452. -/
def execSet2L (s : State) : Result := setR8 2 .l s

/-- SET 2,(HL) (CB D6): R452. -/
def execSet2IndHl (s : State) : Result := setR8 2 .ind s

/-- SET 2,A (CB D7): R452. -/
def execSet2A (s : State) : Result := setR8 2 .a s

/-- SET 3,B (CB D8): R452. -/
def execSet3B (s : State) : Result := setR8 3 .b s

/-- SET 3,C (CB D9): R452. -/
def execSet3C (s : State) : Result := setR8 3 .c s

/-- SET 3,D (CB DA): R452. -/
def execSet3D (s : State) : Result := setR8 3 .d s

/-- SET 3,E (CB DB): R452. -/
def execSet3E (s : State) : Result := setR8 3 .e s

/-- SET 3,H (CB DC): R452. -/
def execSet3H (s : State) : Result := setR8 3 .h s

/-- SET 3,L (CB DD): R452. -/
def execSet3L (s : State) : Result := setR8 3 .l s

/-- SET 3,(HL) (CB DE): R452. -/
def execSet3IndHl (s : State) : Result := setR8 3 .ind s

/-- SET 3,A (CB DF): R452. -/
def execSet3A (s : State) : Result := setR8 3 .a s

/-- SET 4,B (CB E0): R452. -/
def execSet4B (s : State) : Result := setR8 4 .b s

/-- SET 4,C (CB E1): R452. -/
def execSet4C (s : State) : Result := setR8 4 .c s

/-- SET 4,D (CB E2): R452. -/
def execSet4D (s : State) : Result := setR8 4 .d s

/-- SET 4,E (CB E3): R452. -/
def execSet4E (s : State) : Result := setR8 4 .e s

/-- SET 4,H (CB E4): R452. -/
def execSet4H (s : State) : Result := setR8 4 .h s

/-- SET 4,L (CB E5): R452. -/
def execSet4L (s : State) : Result := setR8 4 .l s

/-- SET 4,(HL) (CB E6): R452. -/
def execSet4IndHl (s : State) : Result := setR8 4 .ind s

/-- SET 4,A (CB E7): R452. -/
def execSet4A (s : State) : Result := setR8 4 .a s

/-- SET 5,B (CB E8): R452. -/
def execSet5B (s : State) : Result := setR8 5 .b s

/-- SET 5,C (CB E9): R452. -/
def execSet5C (s : State) : Result := setR8 5 .c s

/-- SET 5,D (CB EA): R452. -/
def execSet5D (s : State) : Result := setR8 5 .d s

/-- SET 5,E (CB EB): R452. -/
def execSet5E (s : State) : Result := setR8 5 .e s

/-- SET 5,H (CB EC): R452. -/
def execSet5H (s : State) : Result := setR8 5 .h s

/-- SET 5,L (CB ED): R452. -/
def execSet5L (s : State) : Result := setR8 5 .l s

/-- SET 5,(HL) (CB EE): R452. -/
def execSet5IndHl (s : State) : Result := setR8 5 .ind s

/-- SET 5,A (CB EF): R452. -/
def execSet5A (s : State) : Result := setR8 5 .a s

/-- SET 6,B (CB F0): R452. -/
def execSet6B (s : State) : Result := setR8 6 .b s

/-- SET 6,C (CB F1): R452. -/
def execSet6C (s : State) : Result := setR8 6 .c s

/-- SET 6,D (CB F2): R452. -/
def execSet6D (s : State) : Result := setR8 6 .d s

/-- SET 6,E (CB F3): R452. -/
def execSet6E (s : State) : Result := setR8 6 .e s

/-- SET 6,H (CB F4): R452. -/
def execSet6H (s : State) : Result := setR8 6 .h s

/-- SET 6,L (CB F5): R452. -/
def execSet6L (s : State) : Result := setR8 6 .l s

/-- SET 6,(HL) (CB F6): R452. -/
def execSet6IndHl (s : State) : Result := setR8 6 .ind s

/-- SET 6,A (CB F7): R452. -/
def execSet6A (s : State) : Result := setR8 6 .a s

/-- SET 7,B (CB F8): R452. -/
def execSet7B (s : State) : Result := setR8 7 .b s

/-- SET 7,C (CB F9): R452. -/
def execSet7C (s : State) : Result := setR8 7 .c s

/-- SET 7,D (CB FA): R452. -/
def execSet7D (s : State) : Result := setR8 7 .d s

/-- SET 7,E (CB FB): R452. -/
def execSet7E (s : State) : Result := setR8 7 .e s

/-- SET 7,H (CB FC): R452. -/
def execSet7H (s : State) : Result := setR8 7 .h s

/-- SET 7,L (CB FD): R452. -/
def execSet7L (s : State) : Result := setR8 7 .l s

/-- SET 7,(HL) (CB FE): R452. -/
def execSet7IndHl (s : State) : Result := setR8 7 .ind s

/-- SET 7,A (CB FF): R452. -/
def execSet7A (s : State) : Result := setR8 7 .a s

end Sys2Proof.Machine
end

