-- ==== Sys2Proof/Machine/Rotate.lean ====
section
/-! DEFINITION. Rotates, shifts and SWAP (spec/44_rotate_shift.md). -/

namespace Sys2Proof.Machine

/-- The accumulator rotates (R400 to R403): Z is always cleared. -/
def rotateA (op : RotOp) (s : State) : Result :=
  let r := rotate op s.a s.flags.c
  done 4#32 ((s.setA r.1).setFlags ⟨false, false, false, r.2⟩)

/-- The CB rotates and shifts (R404 to R411): one read, then one write, of the operand; Z from the result;
8 cycles, 16 with `(HL)`. -/
def rotR8 (op : RotOp) (z : R8) (s : State) : Result :=
  let v := readR8 z s
  let r := rotate op v.1 s.flags.c
  done (if z = .ind then 16#32 else 8#32)
    ((writeR8 z r.1 v.2).setFlags ⟨decide (r.1 = 0#8), false, false, r.2⟩)

/-- RLCA (07): R400. -/
def execRlca (s : State) : Result := rotateA .rlc s

/-- RRCA (0F): R401. -/
def execRrca (s : State) : Result := rotateA .rrc s

/-- RLA (17): R402. -/
def execRla (s : State) : Result := rotateA .rl s

/-- RRA (1F): R403. -/
def execRra (s : State) : Result := rotateA .rr s

/-- RLC B (CB 00): R404. -/
def execRlcB (s : State) : Result := rotR8 .rlc .b s

/-- RLC C (CB 01): R404. -/
def execRlcC (s : State) : Result := rotR8 .rlc .c s

/-- RLC D (CB 02): R404. -/
def execRlcD (s : State) : Result := rotR8 .rlc .d s

/-- RLC E (CB 03): R404. -/
def execRlcE (s : State) : Result := rotR8 .rlc .e s

/-- RLC H (CB 04): R404. -/
def execRlcH (s : State) : Result := rotR8 .rlc .h s

/-- RLC L (CB 05): R404. -/
def execRlcL (s : State) : Result := rotR8 .rlc .l s

/-- RLC (HL) (CB 06): R404. -/
def execRlcIndHl (s : State) : Result := rotR8 .rlc .ind s

/-- RLC A (CB 07): R404. -/
def execRlcA (s : State) : Result := rotR8 .rlc .a s

/-- RRC B (CB 08): R405. -/
def execRrcB (s : State) : Result := rotR8 .rrc .b s

/-- RRC C (CB 09): R405. -/
def execRrcC (s : State) : Result := rotR8 .rrc .c s

/-- RRC D (CB 0A): R405. -/
def execRrcD (s : State) : Result := rotR8 .rrc .d s

/-- RRC E (CB 0B): R405. -/
def execRrcE (s : State) : Result := rotR8 .rrc .e s

/-- RRC H (CB 0C): R405. -/
def execRrcH (s : State) : Result := rotR8 .rrc .h s

/-- RRC L (CB 0D): R405. -/
def execRrcL (s : State) : Result := rotR8 .rrc .l s

/-- RRC (HL) (CB 0E): R405. -/
def execRrcIndHl (s : State) : Result := rotR8 .rrc .ind s

/-- RRC A (CB 0F): R405. -/
def execRrcA (s : State) : Result := rotR8 .rrc .a s

/-- RL B (CB 10): R406. -/
def execRlB (s : State) : Result := rotR8 .rl .b s

/-- RL C (CB 11): R406. -/
def execRlC (s : State) : Result := rotR8 .rl .c s

/-- RL D (CB 12): R406. -/
def execRlD (s : State) : Result := rotR8 .rl .d s

/-- RL E (CB 13): R406. -/
def execRlE (s : State) : Result := rotR8 .rl .e s

/-- RL H (CB 14): R406. -/
def execRlH (s : State) : Result := rotR8 .rl .h s

/-- RL L (CB 15): R406. -/
def execRlL (s : State) : Result := rotR8 .rl .l s

/-- RL (HL) (CB 16): R406. -/
def execRlIndHl (s : State) : Result := rotR8 .rl .ind s

/-- RL A (CB 17): R406. -/
def execRlA (s : State) : Result := rotR8 .rl .a s

/-- RR B (CB 18): R407. -/
def execRrB (s : State) : Result := rotR8 .rr .b s

/-- RR C (CB 19): R407. -/
def execRrC (s : State) : Result := rotR8 .rr .c s

/-- RR D (CB 1A): R407. -/
def execRrD (s : State) : Result := rotR8 .rr .d s

/-- RR E (CB 1B): R407. -/
def execRrE (s : State) : Result := rotR8 .rr .e s

/-- RR H (CB 1C): R407. -/
def execRrH (s : State) : Result := rotR8 .rr .h s

/-- RR L (CB 1D): R407. -/
def execRrL (s : State) : Result := rotR8 .rr .l s

/-- RR (HL) (CB 1E): R407. -/
def execRrIndHl (s : State) : Result := rotR8 .rr .ind s

/-- RR A (CB 1F): R407. -/
def execRrA (s : State) : Result := rotR8 .rr .a s

/-- SLA B (CB 20): R408. -/
def execSlaB (s : State) : Result := rotR8 .sla .b s

/-- SLA C (CB 21): R408. -/
def execSlaC (s : State) : Result := rotR8 .sla .c s

/-- SLA D (CB 22): R408. -/
def execSlaD (s : State) : Result := rotR8 .sla .d s

/-- SLA E (CB 23): R408. -/
def execSlaE (s : State) : Result := rotR8 .sla .e s

/-- SLA H (CB 24): R408. -/
def execSlaH (s : State) : Result := rotR8 .sla .h s

/-- SLA L (CB 25): R408. -/
def execSlaL (s : State) : Result := rotR8 .sla .l s

/-- SLA (HL) (CB 26): R408. -/
def execSlaIndHl (s : State) : Result := rotR8 .sla .ind s

/-- SLA A (CB 27): R408. -/
def execSlaA (s : State) : Result := rotR8 .sla .a s

/-- SRA B (CB 28): R409. -/
def execSraB (s : State) : Result := rotR8 .sra .b s

/-- SRA C (CB 29): R409. -/
def execSraC (s : State) : Result := rotR8 .sra .c s

/-- SRA D (CB 2A): R409. -/
def execSraD (s : State) : Result := rotR8 .sra .d s

/-- SRA E (CB 2B): R409. -/
def execSraE (s : State) : Result := rotR8 .sra .e s

/-- SRA H (CB 2C): R409. -/
def execSraH (s : State) : Result := rotR8 .sra .h s

/-- SRA L (CB 2D): R409. -/
def execSraL (s : State) : Result := rotR8 .sra .l s

/-- SRA (HL) (CB 2E): R409. -/
def execSraIndHl (s : State) : Result := rotR8 .sra .ind s

/-- SRA A (CB 2F): R409. -/
def execSraA (s : State) : Result := rotR8 .sra .a s

/-- SWAP B (CB 30): R410. -/
def execSwapB (s : State) : Result := rotR8 .swap .b s

/-- SWAP C (CB 31): R410. -/
def execSwapC (s : State) : Result := rotR8 .swap .c s

/-- SWAP D (CB 32): R410. -/
def execSwapD (s : State) : Result := rotR8 .swap .d s

/-- SWAP E (CB 33): R410. -/
def execSwapE (s : State) : Result := rotR8 .swap .e s

/-- SWAP H (CB 34): R410. -/
def execSwapH (s : State) : Result := rotR8 .swap .h s

/-- SWAP L (CB 35): R410. -/
def execSwapL (s : State) : Result := rotR8 .swap .l s

/-- SWAP (HL) (CB 36): R410. -/
def execSwapIndHl (s : State) : Result := rotR8 .swap .ind s

/-- SWAP A (CB 37): R410. -/
def execSwapA (s : State) : Result := rotR8 .swap .a s

/-- SRL B (CB 38): R411. -/
def execSrlB (s : State) : Result := rotR8 .srl .b s

/-- SRL C (CB 39): R411. -/
def execSrlC (s : State) : Result := rotR8 .srl .c s

/-- SRL D (CB 3A): R411. -/
def execSrlD (s : State) : Result := rotR8 .srl .d s

/-- SRL E (CB 3B): R411. -/
def execSrlE (s : State) : Result := rotR8 .srl .e s

/-- SRL H (CB 3C): R411. -/
def execSrlH (s : State) : Result := rotR8 .srl .h s

/-- SRL L (CB 3D): R411. -/
def execSrlL (s : State) : Result := rotR8 .srl .l s

/-- SRL (HL) (CB 3E): R411. -/
def execSrlIndHl (s : State) : Result := rotR8 .srl .ind s

/-- SRL A (CB 3F): R411. -/
def execSrlA (s : State) : Result := rotR8 .srl .a s

end Sys2Proof.Machine
end

