-- ==== Sys2Proof/Machine/System.lean ====
section
/-! DEFINITION. HALT, STOP, DI, EI, NOP, PREFIX CB and the illegal opcodes (spec/47_system.md). -/

namespace Sys2Proof.Machine

/-- `HALT` (R530): the HALT bug while IME is 0 and an interrupt is pending, HALTED otherwise. -/
def halt (s : State) : Result :=
  if s.ime = false ∧ s.pending ≠ 0#5 then done 4#32 (s.setHaltBug true)
  else done 4#32 (s.setRun .halted)

/-- `execute CB-table entry cbop` (R535), by the fields of R106. -/
def cbEntry (cbop : Byte) (s : State) : Result :=
  match fieldX cbop with
  | 0 => rotR8 (.ofField (fieldY cbop)) (.ofField (fieldZ cbop)) s
  | 1 => bitR8 (fieldY cbop) (.ofField (fieldZ cbop)) s
  | 2 => resR8 (fieldY cbop) (.ofField (fieldZ cbop)) s
  | _ => setR8 (fieldY cbop) (.ofField (fieldZ cbop)) s

/-- NOP (00): R534. -/
def execNop (s : State) : Result := done 4#32 s

/-- STOP (10): R531. -/
def execStop (_ign : Option Byte) (s : State) : Result := done 4#32 (s.setRun .stopped)

/-- HALT (76): R530. -/
def execHalt (s : State) : Result := halt s

/-- PREFIX CB (CB): R535. -/
def execPrefixCb (cbop : Byte) (s : State) : Result := cbEntry cbop s

/-- ILLEGAL_D3 (D3): R536. -/
def execIllegalD3 (s : State) : Result := .next (raiseIllegal 0xD3#8 s.opcodePc s)

/-- ILLEGAL_DB (DB): R536. -/
def execIllegalDB (s : State) : Result := .next (raiseIllegal 0xDB#8 s.opcodePc s)

/-- ILLEGAL_DD (DD): R536. -/
def execIllegalDD (s : State) : Result := .next (raiseIllegal 0xDD#8 s.opcodePc s)

/-- ILLEGAL_E3 (E3): R536. -/
def execIllegalE3 (s : State) : Result := .next (raiseIllegal 0xE3#8 s.opcodePc s)

/-- ILLEGAL_E4 (E4): R536. -/
def execIllegalE4 (s : State) : Result := .next (raiseIllegal 0xE4#8 s.opcodePc s)

/-- ILLEGAL_EB (EB): R536. -/
def execIllegalEB (s : State) : Result := .next (raiseIllegal 0xEB#8 s.opcodePc s)

/-- ILLEGAL_EC (EC): R536. -/
def execIllegalEC (s : State) : Result := .next (raiseIllegal 0xEC#8 s.opcodePc s)

/-- ILLEGAL_ED (ED): R536. -/
def execIllegalED (s : State) : Result := .next (raiseIllegal 0xED#8 s.opcodePc s)

/-- DI (F3): R532. -/
def execDi (s : State) : Result := done 4#32 ((s.setIme false).setEiPending false)

/-- ILLEGAL_F4 (F4): R536. -/
def execIllegalF4 (s : State) : Result := .next (raiseIllegal 0xF4#8 s.opcodePc s)

/-- EI (FB): R533. -/
def execEi (s : State) : Result := done 4#32 (s.setEiPending true)

/-- ILLEGAL_FC (FC): R536. -/
def execIllegalFC (s : State) : Result := .next (raiseIllegal 0xFC#8 s.opcodePc s)

/-- ILLEGAL_FD (FD): R536. -/
def execIllegalFD (s : State) : Result := .next (raiseIllegal 0xFD#8 s.opcodePc s)

end Sys2Proof.Machine
end

