-- ==== Sys2Proof/Machine/Driver.lean ====
section
/-! DEFINITION. The driver of spec/60_exceptions.md R575 to R580: what `step` does around one instruction. -/

namespace Sys2Proof.Machine

/-- The end of a step: the caller advances the collaborators by the returned count (R48, log 7). -/
def elapse (s : State) : State := { s with port := .elapsed s.cycles :: s.port }

/-- A step that returns `n` and changes nothing of the block (R560, R579). -/
def idleStep (n : BitVec 32) (s : State) : State := elapse (s.setCycles n)

/-- The end of an instruction (R575): a pending EI sets IME, unless the opcode was DI's or the instruction
raised `IllegalOpcode`, which ended the step. -/
def applyEi (pend : Bool) (op : Byte) (s : State) : State :=
  if pend = true ∧ op ≠ 0xF3#8 ∧ s.locked = false then s.setIme true else s

/-- Source step 4 of R580: fetch, decode and execute one instruction, with the delayed EI around it. -/
def instructionStep (s : State) : Result :=
  let f := fetchInstr (s.setEiPending false)
  match exec f.instr f.state with
  | .next t => .next (elapse (applyEi s.eiPending f.op t))
  | .fault r => .fault r
  | .refused r => .refused r

/-- Source step 1 of R580: a pending interrupt wakes a HALTED core. -/
def wake (s : State) : State :=
  if s.run = .halted ∧ s.pending ≠ 0#5 then s.setRun .running else s

/-- The `step()` transaction (R580). -/
def driverStep (s : State) : Result :=
  if s.locked then .next (idleStep s.params.lockedCycles s)
  else
    let s := wake s
    if s.run ≠ .running then .next (idleStep s.params.idleCycles s)
    else if s.ime = true ∧ s.pending ≠ 0#5 then
      .next (elapse (dispatchInterrupt (lowestSource s.pending) s))
    else instructionStep s

end Sys2Proof.Machine
end

