-- ==== Sys2Proof/Machine/Step.lean ====
section
/-! DEFINITION. One step of the machine, and how an instruction is put where the next step fetches it. -/

namespace Sys2Proof.Machine

/-- One `step()` transaction (spec/60_exceptions.md R580) and the caller's advance after it. -/
def step (s : State) : Host.Outcome State Fault Refusal := driverStep s

/-- The state with the instruction of a table word (Decode.lean, `tableBytes`) where the very next step
fetches (log 8). -/
def State.withFetchWord (s : State) (nbits w : Nat) : State := placeInstr (tableBytes nbits w) s

end Sys2Proof.Machine
end

