-- ==== Sys2Proof/Machine/Transactions.lean ====
section
/-! DEFINITION. The transactions of spec/10_state.md R48 other than `step()`: what the host does to the block
between two steps (spec/60_exceptions.md R566, R578, R589; spec/70_reset_and_hazards.md R620). -/

namespace Sys2Proof.Machine

/-- `request(source)`: `IF <- IF | (1 << source)` (R566). -/
def request (k : InterruptSource) (s : State) : State := { s with iflag := s.iflag ||| (1#5 <<< k.code) }

/-- `wake_stop()`: leaves STOPPED, and does nothing in any other run state (R578). -/
def wakeStop (s : State) : State := if s.run = .stopped then s.setRun .running else s

/-- `reset(BOOT_SKIP)` of a running block (R620): every piece of block state to its reset value, no bus
access and no cycle count. The parameters stay, and the collaborators, with what they are loaded with, are
not reset by it. -/
def resetBlock (bootSkip : Bool) (s : State) : State :=
  { State.resetIn s.params bootSkip with
    mem := s.mem.filter (fun cell => !ramAddress cell.1)
    port := s.port
    opcodePc := s.opcodePc
    cycles := s.cycles }

/-- What `observe()` returns (R49); IF as read, and WRAM and HRAM through `peek`. -/
structure Snapshot where
  a : Byte
  f : Byte
  b : Byte
  c : Byte
  d : Byte
  e : Byte
  h : Byte
  l : Byte
  sp : Word
  pc : Word
  ime : Bool
  eiPending : Bool
  ie : Byte
  iflag : Byte
  run : RunState
  haltBug : Bool
  locked : Bool
  illegalOpcode : Byte
  illegalPc : Word
deriving DecidableEq, Repr

/-- `observe()` (R49): it changes no state. -/
def observe (s : State) : Snapshot :=
  { a := s.a, f := s.f, b := s.b, c := s.c, d := s.d, e := s.e, h := s.h, l := s.l, sp := s.sp, pc := s.pc
    ime := s.ime, eiPending := s.eiPending, ie := s.ie, iflag := s.ifRead, run := s.run
    haltBug := s.haltBug, locked := s.locked, illegalOpcode := s.illegalOpcode, illegalPc := s.illegalPc }

/-- The transactions that may change state (R48). -/
inductive Transaction where
  | reset (bootSkip : Bool)
  | step
  | request (source : Nat)
  | wakeStop
deriving DecidableEq, Repr

/-- One transaction. A source outside 0..4 is refused (D43, I14). -/
def transact (t : Transaction) (s : State) : Result :=
  match t with
  | .reset bootSkip => .next (resetBlock bootSkip s)
  | .step => step s
  | .request k =>
    match InterruptSource.ofCode k with
    | some source => .next (request source s)
    | none => .refused (.badInterruptSource k)
  | .wakeStop => .next (wakeStop s)

/-- Transactions one after another, never overlapping (R48). -/
def runTransactions : List Transaction → State → Result
  | [], s => .next s
  | t :: ts, s =>
    match transact t s with
    | .next s' => runTransactions ts s'
    | .fault r => .fault r
    | .refused r => .refused r

end Sys2Proof.Machine
end

