-- ==== Sys2Proof/Safety.lean ====
section
/-! DEFINITION. The invariant of the block, and the two ends of a run a claim may use
(spec/60_exceptions.md R590). -/

namespace Sys2Proof.Machine

/-- What every state the block can reach from reset satisfies. -/
structure State.Inv (s : State) : Prop where
  /-- Bits 3:0 of F are zero (R33). -/
  flagsLow : s.f &&& 0x0F#8 = 0#8
  /-- Memory is in its canonical form. -/
  memory : Memory.wf s.params.ramFill s.mem
  /-- The HALT bug is armed only in a running, unlocked core with no EI pending (R101, R530, R575). -/
  haltBug : s.haltBug = true → s.run = .running ∧ s.locked = false ∧ s.eiPending = false
  /-- A pending EI is waiting for the next instruction of a running, unlocked core (R575, R560). -/
  eiPending : s.eiPending = true → s.run = .running ∧ s.locked = false
  /-- The core locks while it runs, and stays so (R560). -/
  locked : s.locked = true → s.run = .running

/-- End of run FAULT: the core is locked (R590). -/
def State.endedInFault (s : State) : Bool := s.locked

/-- No interrupt is able to be serviced: IME is 0 or no source is enabled (R590, D46). -/
def State.interruptsOff (s : State) : Bool := !s.ime || decide (s.ie &&& 0x1F#8 = 0#8)

/-- The next step executes an instruction (R580): the core is not locked, it is RUNNING or is woken by this
step, and there is no interrupt to dispatch. -/
def State.executesNext (s : State) : Bool :=
  !s.locked && decide ((wake s).run = .running) && !(s.ime && decide (s.pending ≠ 0#5))

/-- The instruction the next step would execute is an unconditional jump to its own address, the address of
its opcode: `JR 0xFE`, or `JP a16` with `a16` that address (R590). -/
def State.jumpsToItself (s : State) : Bool :=
  match (fetchInstr s).instr with
  | .jrE8 e => decide ((fetchInstr s).state.pc + sext16 e = s.pc)
  | .jpA16 a => decide (a = s.pc)
  | _ => false

/-- End of run LOOP (R590): the step executes an unconditional jump to its own address, and no interrupt is
able to be serviced after it. DEDUCED (log 18): IME and IE are those the step leaves, which is where FAULT
reads `locked`. -/
def State.atSelfLoop (s : State) : Bool :=
  s.executesNext && s.jumpsToItself &&
    match step s with
    | .next t => t.interruptsOff
    | _ => false

end Sys2Proof.Machine
end

