-- ==== Sys2Proof/Certificates/Slice0/Obligations.lean ====
section
/-! DEFINITION. The statements for the provers, and the vocabulary they are written in. The vocabulary restates
the spec's formulas in its own terms, so that a slip in the model's operations makes a statement false. -/

open Sys2Proof Sys2Proof.Machine

namespace Sys2Proof.Stated

/-! ## Vocabulary -/

/-- The flags of F: Z bit 7, N bit 6, H bit 5, C bit 4 (spec/10_state.md R33). -/
def fZ (s : State) : Bool := s.f.getLsbD 7
def fN (s : State) : Bool := s.f.getLsbD 6
def fH (s : State) : Bool := s.f.getLsbD 5
def fC (s : State) : Bool := s.f.getLsbD 4

/-- The byte F with the flags z n h c in bits 7 to 4 and zero below (R33). -/
def flagByte (z n h c : Bool) : Byte :=
  BitVec.ofBool z ++ (BitVec.ofBool n ++ (BitVec.ofBool h ++ (BitVec.ofBool c ++ 0b0000#4)))

/-- The bits of an `r8` field (spec/30_encoding.md R103). -/
def code : R8 → BitVec 3
  | .b => 0b000#3 | .c => 0b001#3 | .d => 0b010#3 | .e => 0b011#3
  | .h => 0b100#3 | .l => 0b101#3 | .ind => 0b110#3 | .a => 0b111#3

/-- The bits of an `rp` field (R104). -/
def codeRp : Rp → BitVec 2
  | .bc => 0b00#2 | .de => 0b01#2 | .hl => 0b10#2 | .sp => 0b11#2

/-- The bits of an `rp2` field (R104). -/
def codeRp2 : Rp2 → BitVec 2
  | .bc => 0b00#2 | .de => 0b01#2 | .hl => 0b10#2 | .af => 0b11#2

/-- The bits of a `cc` field (R105). -/
def codeCc : Cc → BitVec 2
  | .nz => 0b00#2 | .z => 0b01#2 | .nc => 0b10#2 | .c => 0b11#2

/-- Whether a condition holds (R105). -/
def holds (cc : Cc) (s : State) : Bool :=
  match cc with
  | .nz => !fZ s | .z => fZ s | .nc => !fC s | .c => fC s

/-- Bits 7:0 and 15:8 of a word (spec/00_scope.md R10). -/
def low (w : Word) : Byte := BitVec.ofNat 8 (w.toNat % 256)
def high (w : Word) : Byte := BitVec.ofNat 8 (w.toNat / 256)

/-- The eleven illegal opcodes (R112). -/
def illegalTable : List (Instr × Byte) :=
  [(.illegalD3, 0xD3#8), (.illegalDB, 0xDB#8), (.illegalDD, 0xDD#8), (.illegalE3, 0xE3#8),
   (.illegalE4, 0xE4#8), (.illegalEB, 0xEB#8), (.illegalEC, 0xEC#8), (.illegalED, 0xED#8),
   (.illegalF4, 0xF4#8), (.illegalFC, 0xFC#8), (.illegalFD, 0xFD#8)]

/-- The instruction raises `IllegalOpcode` (R536). -/
def isIllegal (i : Instr) : Bool := illegalTable.any (fun row => decide (row.1 = i))

/-- Addresses of the block's RAM: work RAM, its echo, high RAM (spec/20_memory.md R61). -/
abbrev isRam (a : Word) : Prop :=
  (0xC000 ≤ a.toNat ∧ a.toNat ≤ 0xFDFF) ∨ (0xFF80 ≤ a.toNat ∧ a.toNat ≤ 0xFFFE)

/-- Addresses of the external port (R61). -/
abbrev isExternal (a : Word) : Prop :=
  a.toNat ≤ 0xBFFF ∨ (0xFE00 ≤ a.toNat ∧ a.toNat ≤ 0xFE9F) ∨ (0xFF00 ≤ a.toNat ∧ a.toNat ≤ 0xFF0E) ∨
    (0xFF10 ≤ a.toNat ∧ a.toNat ≤ 0xFF7F)

/-- The location an address names: an echo address names the work-RAM byte 0x2000 below (R63). -/
def location (a : Word) : Nat :=
  if 0xE000 ≤ a.toNat ∧ a.toNat ≤ 0xFDFF then a.toNat - 0x2000 else a.toNat

/-- The byte an address reads as without effect: the block's own, else one the collaborators are loaded
with, else none. -/
def byteAt (a : Word) (s : State) : Option Byte :=
  match peek a s with
  | some v => some v
  | none => Memory.find s.mem a.toNat

/-- The next step executes an instruction: RUNNING, not locked, no interrupt to dispatch
(spec/60_exceptions.md R580). -/
abbrev executes (s : State) : Prop :=
  s.locked = false ∧ s.run = .running ∧ (s.ime = false ∨ s.pending = 0#5)

/-- The first byte of an instruction, and the second byte of a CB-prefixed one. -/
def opcode (i : Instr) : Nat := ((encode i).headD 0#8).toNat
def cbOpcode (i : Instr) : Nat := ((encode i).getD 1 0#8).toNat

/-- The operand a16 of the two stores that have one, and the operand a8 of the one that has it. -/
def a16Of : Instr → Word
  | .ldIndA16A a16 => a16
  | .ldIndA16Sp a16 => a16
  | _ => 0
def a8Of : Instr → Byte
  | .ldhIndA8A a8 => a8
  | _ => 0

/-- The addresses an instruction stores to, in the state it executes in (R200 to R255, R317, R318, R404 to
R411, R451, R452, R505, R506, R510): the same expressions the meanings use. -/
def storesTo (i : Instr) (s : State) : List Word :=
  let op := opcode i
  if op = 0xCB then
    if cbOpcode i % 8 = 6 ∧ ¬(0x40 ≤ cbOpcode i ∧ cbOpcode i ≤ 0x7F) then [s.hl] else []
  else if (0x70 ≤ op ∧ op ≤ 0x77 ∧ op ≠ 0x76) ∨ (0x34 ≤ op ∧ op ≤ 0x36) ∨ op = 0x22 ∨ op = 0x32 then [s.hl]
  else if op = 0x02 then [s.bc]
  else if op = 0x12 then [s.de]
  else if op = 0xEA then [a16Of i]
  else if op = 0x08 then [a16Of i, a16Of i + 1]
  else if op = 0xE0 then [pageAddr (a8Of i)]
  else if op = 0xE2 then [pageAddr s.c]
  else if op ∈ [0xC5, 0xD5, 0xE5, 0xF5, 0xCD, 0xC7, 0xCF, 0xD7, 0xDF, 0xE7, 0xEF, 0xF7, 0xFF] then
    [s.sp - 1, s.sp - 2]
  else if (op = 0xC4 ∧ holds .nz s) ∨ (op = 0xCC ∧ holds .z s) ∨ (op = 0xD4 ∧ holds .nc s) ∨
      (op = 0xDC ∧ holds .c s) then [s.sp - 1, s.sp - 2]
  else []

/-- The instructions that write PC other than by fetching (R37): JP, JR, CALL, RET, RETI, RST. -/
def writesPc (i : Instr) : Bool :=
  opcode i ∈ [0x18, 0x20, 0x28, 0x30, 0x38, 0xC0, 0xC2, 0xC3, 0xC4, 0xC7, 0xC8, 0xC9, 0xCA, 0xCC, 0xCD, 0xCF,
    0xD0, 0xD2, 0xD4, 0xD7, 0xD8, 0xD9, 0xDA, 0xDC, 0xDF, 0xE7, 0xE9, 0xEF, 0xF7, 0xFF]

/-- The instructions that write SP (R36): the loads and arithmetic on SP, PUSH, POP, CALL, RET, RETI, RST. -/
def writesSp (i : Instr) : Bool :=
  opcode i ∈ [0x31, 0x33, 0x3B, 0xE8, 0xF9, 0xC0, 0xC1, 0xC4, 0xC5, 0xC7, 0xC8, 0xC9, 0xCC, 0xCD, 0xCF, 0xD0,
    0xD1, 0xD4, 0xD5, 0xD7, 0xD8, 0xD9, 0xDC, 0xDF, 0xE1, 0xE5, 0xE7, 0xEF, 0xF1, 0xF5, 0xF7, 0xFF]

/-- The instructions that write a flag (R35): the flag columns of files 42 to 45 and POP AF. -/
def writesF (i : Instr) : Bool :=
  if opcode i = 0xCB then decide (cbOpcode i < 0x80)
  else decide (0x80 ≤ opcode i ∧ opcode i ≤ 0xBF) ||
    opcode i ∈ [0x04, 0x0C, 0x14, 0x1C, 0x24, 0x2C, 0x34, 0x3C, 0x05, 0x0D, 0x15, 0x1D, 0x25, 0x2D, 0x35, 0x3D,
      0x07, 0x0F, 0x17, 0x1F, 0x27, 0x2F, 0x37, 0x3F, 0x09, 0x19, 0x29, 0x39, 0xE8, 0xF8, 0xF1,
      0xC6, 0xCE, 0xD6, 0xDE, 0xE6, 0xEE, 0xF6, 0xFE]

/-- F after `add8(a, v, c)` (spec/42_alu8.md R300). -/
def addFlags (a v : Byte) (c : Nat) : Byte :=
  flagByte (decide ((a.toNat + v.toNat + c) % 256 = 0)) false
    (decide (a.toNat % 16 + v.toNat % 16 + c ≥ 16)) (decide (a.toNat + v.toNat + c ≥ 256))

/-- F after `sub8(a, v, c)` (R300). -/
def subFlags (a v : Byte) (c : Nat) : Byte :=
  flagByte (decide ((a.toNat + 512 - v.toNat - c) % 256 = 0)) true
    (decide (a.toNat % 16 < v.toNat % 16 + c)) (decide (a.toNat < v.toNat + c))

/-- Flag C as the number 0 or 1. -/
def carry (s : State) : Byte := if fC s then 1#8 else 0#8

/-- The result and the bit for C of each rotate and shift, bit by bit (spec/44_rotate_shift.md R404 to
R411): `v6` stands for bits 6:0 and `v7` for bits 7:1. -/
def rotated (op : RotOp) (v : Byte) (cin : Bool) : Byte × Bool :=
  let v6 : BitVec 7 := v.extractLsb' 0 7
  let v7 : BitVec 7 := v.extractLsb' 1 7
  let b7 := v.getLsbD 7
  let b0 := v.getLsbD 0
  match op with
  | .rlc => (v6 ++ BitVec.ofBool b7, b7)
  | .rrc => (BitVec.ofBool b0 ++ v7, b0)
  | .rl => (v6 ++ BitVec.ofBool cin, b7)
  | .rr => (BitVec.ofBool cin ++ v7, b0)
  | .sla => (v6 ++ 0#1, b7)
  | .sra => (BitVec.ofBool b7 ++ v7, b0)
  | .swap => (v.extractLsb' 0 4 ++ v.extractLsb' 4 4, false)
  | .srl => (0#1 ++ v7, b0)

/-- The stack after a push of `v`: the high byte at SP - 1, then the low byte at SP - 2 (R14). -/
def pushed (v : Word) (s : State) : State :=
  { busWrite (s.sp - 2) (low v) (busWrite (s.sp - 1) (high v) s) with sp := s.sp - 2 }

/-- The low byte a pop reads at SP, the high byte it then reads at SP + 1, and the state after both (R14). -/
def popLow (s : State) : Byte × State := busRead s.sp s
def popHigh (s : State) : Byte × State := busRead (s.sp + 1) (popLow s).2

/-- The word a pop returns. -/
def popped (s : State) : Word := (popHigh s).1 ++ (popLow s).1

end Sys2Proof.Stated

open Sys2Proof.Stated

/-- Fourteen byte strings, one or two of each family of the opcode table, written out from the tables R110 and
R111, decode to the instruction they stand for, with their immediates, whatever STOP_LENGTH is; and 0x10,
0xD3 is STOP with its ignored byte if STOP_LENGTH is 2, STOP with the byte left over if it is 1. (From
R102, R107, R110, R111, R531.) -/
def Obligations.SampleWordsDecodeToTheirInstructions : Prop :=
  (∀ n : StopLength,
    decode n [0x41#8] = .ok (.ldBC, []) ∧ decode n [0x36#8, 0x99#8] = .ok (.ldIndHlD8 0x99#8, []) ∧
    decode n [0x01#8, 0x34#8, 0x12#8] = .ok (.ldBcD16 0x1234#16, []) ∧ decode n [0xD5#8] = .ok (.pushDe, []) ∧
    decode n [0x9E#8] = .ok (.sbcAIndHl, []) ∧ decode n [0xFE#8, 0x40#8] = .ok (.cpD8 0x40#8, []) ∧
    decode n [0x39#8] = .ok (.addHlSp, []) ∧ decode n [0x1F#8] = .ok (.rra, []) ∧
    decode n [0xCB#8, 0x37#8] = .ok (.swapA, []) ∧ decode n [0xCB#8, 0x5E#8] = .ok (.bit3IndHl, []) ∧
    decode n [0xDC#8, 0x00#8, 0x20#8] = .ok (.callCA16 0x2000#16, []) ∧
    decode n [0x18#8, 0xFE#8] = .ok (.jrE8 0xFE#8, []) ∧ decode n [0x76#8] = .ok (.halt, []) ∧
    decode n [0xFC#8] = .ok (.illegalFC, [])) ∧
  decode .two [0x10#8, 0xD3#8] = .ok (.stop (some 0xD3#8), []) ∧
  decode .one [0x10#8, 0xD3#8] = .ok (.stop none, [0xD3#8])

/-- For either STOP_LENGTH, every well-formed instruction with every value of its immediate, and whatever
bytes follow, decoding its encoding followed by those bytes answers the instruction and those bytes. (From
R100, R102, R110, R111.) -/
def Obligations.DecodeOfEncodeIsTheInstruction : Prop :=
  ∀ (n : StopLength) (i : Instr) (rest : List Byte), i.wf n = true → decode n (encode i ++ rest) = .ok (i, rest)

/-- For either STOP_LENGTH: if a byte string decodes to an instruction with some bytes left, the instruction
is well-formed and its encoding followed by the bytes left is the string, so that decoding drops no bit.
(From R100, R102, R113.) -/
def Obligations.EveryDecodingEncodesToTheSameBytes : Prop :=
  ∀ (n : StopLength) (bs : List Byte) (i : Instr) (rest : List Byte), decode n bs = .ok (i, rest) →
    i.wf n = true ∧ encode i ++ rest = bs

/-- For either STOP_LENGTH any three bytes begin with an instruction, and that instruction is one of the
eleven that raise IllegalOpcode exactly if the first byte is one of the eleven opcodes of R112. (From
R112, R113.) -/
def Obligations.EveryOpcodeDecodesAndElevenAreIllegal : Prop :=
  ∀ (n : StopLength) (op b1 b2 : Byte), ∃ i rest, decode n [op, b1, b2] = .ok (i, rest) ∧
    (isIllegal i = true ↔ op.toNat ∈ [0xD3, 0xDB, 0xDD, 0xE3, 0xE4, 0xEB, 0xEC, 0xED, 0xF4, 0xFC, 0xFD])

/-- The prefix and the listed two-byte opcodes give length 2, STOP gives STOP_LENGTH, the listed three-byte
opcodes 3, every other opcode, the illegal ones among them, 1; every well-formed instruction, and the
PREFIX CB row with its byte, is encoded in the length its first byte gives; and with STOP_LENGTH = 2,
among the 245 opcodes that are not illegal 201 give 1, 27 give 2 and 17 give 3. (States R114.) -/
def Obligations.LengthFollowsFromTheFirstByte : Prop :=
  (∀ (n : StopLength) (op : Byte), instrLength n op =
    if op.toNat = 0x10 then (match n with | .one => 1 | .two => 2)
    else if op.toNat ∈ [0xCB, 0x06, 0x0E, 0x16, 0x1E, 0x26, 0x2E, 0x36, 0x3E, 0xC6, 0xCE, 0xD6, 0xDE, 0xE6, 0xEE, 0xF6,
      0xFE, 0xE0, 0xF0, 0x18, 0x20, 0x28, 0x30, 0x38, 0xE8, 0xF8] then 2
    else if op.toNat ∈ [0x01, 0x11, 0x21, 0x31, 0x08, 0xC3, 0xC2, 0xCA, 0xD2, 0xDA, 0xCD, 0xC4, 0xCC, 0xD4, 0xDC,
      0xEA, 0xFA] then 3
    else 1) ∧
  (∀ (n : StopLength) (i : Instr), (i.wf n = true ∨ ∃ b, i = .prefixCb b) →
    (encode i).length = instrLength n ((encode i).headD 0#8)) ∧
  (∀ n : Nat, (n = 1 ∨ n = 2 ∨ n = 3) →
    ((List.range 256).filter (fun op => instrLength .two (BitVec.ofNat 8 op) == n &&
      !(illegalTable.any (fun row => row.2 == BitVec.ofNat 8 op)))).length =
    if n = 1 then 201 else if n = 2 then 27 else 17)

/-- The reset transaction leaves, in the mode BOOT_SKIP selects, every register, IME, ei_pending, halt_bug,
IE, IF, the run state, the lock and its record at the values of R620, every byte of work RAM and high RAM
at RAM_FILL, makes no port access, returns no count, and leaves the parameters (log 9) and the
collaborators (log 5, log 13) as they are; no other transaction clears the lock. (States R620.) -/
def Obligations.ResetLeavesTheTabledState : Prop :=
  ∀ (s : State) (bootSkip : Bool),
    let t := resetBlock bootSkip s
    transact (.reset bootSkip) s = .next t ∧
    (bootSkip = false →
      t.a = 0x00#8 ∧ t.f = 0x00#8 ∧ t.b = 0x00#8 ∧ t.c = 0x00#8 ∧ t.d = 0x00#8 ∧ t.e = 0x00#8 ∧ t.h = 0x00#8 ∧
      t.l = 0x00#8 ∧ t.sp = 0x0000#16 ∧ t.pc = 0x0000#16 ∧ t.ie = 0x00#8 ∧ t.iflag = 0x00#5) ∧
    (bootSkip = true →
      t.a = 0x01#8 ∧ t.f = 0xB0#8 ∧ t.b = 0x00#8 ∧ t.c = 0x13#8 ∧ t.d = 0x00#8 ∧ t.e = 0xD8#8 ∧ t.h = 0x01#8 ∧
      t.l = 0x4D#8 ∧ t.sp = 0xFFFE#16 ∧ t.pc = 0x0100#16 ∧ t.ie = 0x00#8 ∧ t.iflag = 0x01#5) ∧
    t.ime = false ∧ t.eiPending = false ∧ t.haltBug = false ∧ t.run = .running ∧ t.locked = false ∧
    t.illegalOpcode = 0x00#8 ∧ t.illegalPc = 0x0000#16 ∧
    (∀ a, isRam a → peek a t = some s.params.ramFill) ∧ t.params = s.params ∧ t.port = s.port ∧
    t.cycles = s.cycles ∧
    (∀ a, isExternal a → byteAt a t = byteAt a s) ∧
    (s.locked = true → ∀ other u, transact other s = .next u → u.locked = false → ∃ mode, other = .reset mode)

/-- For all parameters the states right after a power-on reset and after a boot-skip reset satisfy the
invariant, and the machine's reset state, which by the model's choice (log 1, log 9) is the boot-skip one
with the parameters the spec chooses, does. (From R46, R620.) -/
def Obligations.ResetStatesSatisfyTheInvariant : Prop :=
  (∀ p : Params, (State.resetIn p false).Inv ∧ (State.resetIn p true).Inv) ∧ State.reset.Inv

/-- An external address is one port access; a work-RAM, echo or high-RAM address reads and writes its cell;
the unused region reads OPEN_BUS and ignores writes; 0xFF0F reads IF below IF_UNUSED_BITS and writes its
five bits; 0xFFFF reads and writes IE. A read of the block's own regions changes nothing. The record of
port accesses is the model's own (log 2), and that a write to an external address leaves the bytes the
collaborators are loaded with at every other address is the model's choice (log 5), not the spec's. (From
R9, R41, R60, R61, R62, R65.) -/
def Obligations.TheBusFollowsTheAddressMap : Prop :=
  ∀ (a : Word) (v : Byte) (s : State),
    (isExternal a →
      (∃ r, busRead a s = (r, { s with port := .read a r :: s.port })) ∧
      (∃ m, busWrite a v s = { s with mem := m, port := .write a v :: s.port } ∧
        ∀ n, n ≠ a.toNat → Memory.find m n = Memory.find s.mem n)) ∧
    (isRam a →
      busRead a s = ((Memory.find s.mem (location a)).getD s.params.ramFill, s) ∧
      busWrite a v s = { s with mem := Memory.store s.params.ramFill s.mem (location a) v }) ∧
    (0xFEA0 ≤ a.toNat ∧ a.toNat ≤ 0xFEFF → busRead a s = (s.params.openBus, s) ∧ busWrite a v s = s) ∧
    (a = 0xFF0F#16 →
      busRead a s = (s.params.ifUnusedBits ++ s.iflag, s) ∧ busWrite a v s = { s with iflag := v.extractLsb' 0 5 }) ∧
    (a = 0xFFFF#16 → busRead a s = (s.ie, s) ∧ busWrite a v s = { s with ie := v })

/-- After a write to work RAM, its echo or high RAM every address of the same location reads the byte written;
after any write every address of another location that the block owns reads as before. (From R69, R72.) -/
def Obligations.RamReturnsTheLastByteWritten : Prop :=
  ∀ (a a' : Word) (v : Byte) (s : State),
    (isRam a → location a' = location a → (busRead a' (busWrite a v s)).1 = v) ∧
    (location a' ≠ location a → peek a' (busWrite a v s) = peek a' s)

/-- A byte written to a work-RAM address up to 0xDDFF is read back 0x2000 above, a byte written to an echo
address is read back 0x2000 below, and a write to 0xDE00-0xDFFF is not seen 0x2000 above, where a byte the
collaborators are loaded with (log 5) stays as it was. (States R63.) -/
def Obligations.TheEchoMirrorsWorkRam : Prop :=
  ∀ (a : Word) (v : Byte) (s : State),
    (0xC000 ≤ a.toNat ∧ a.toNat ≤ 0xDDFF → busRead (a + 0x2000#16) (busWrite a v s) = (v, busWrite a v s)) ∧
    (0xE000 ≤ a.toNat ∧ a.toNat ≤ 0xFDFF → busRead (a - 0x2000#16) (busWrite a v s) = (v, busWrite a v s)) ∧
    (0xDE00 ≤ a.toNat ∧ a.toNat ≤ 0xDFFF → byteAt (a + 0x2000#16) (busWrite a v s) = byteAt (a + 0x2000#16) s)

/-- A write to 0x0000-0x7FFF changes no state of the block and is passed to the port, whose history in the
model's own field gains it (log 2). That the bytes the collaborators are loaded with stay too is the
model's choice (log 5), not the spec's: R64 lets a mapper switch banks. (From R62, R64.) -/
def Obligations.RomWritesChangeNoBlockState : Prop :=
  ∀ (a : Word) (v : Byte) (s : State), a.toNat ≤ 0x7FFF →
    busWrite a v s = { s with port := .write a v :: s.port }

/-- Reading operand 0 to 7 gives B, C, D, E, H, L, the byte on the bus at HL, A; writing it writes that
register or that byte, and nothing else. (States R103.) -/
def Obligations.RegisterOperandsAreTheNamedRegisters : Prop :=
  ∀ (v : Byte) (s : State),
    (readR8 (.ofField 0) s = (s.b, s) ∧ readR8 (.ofField 1) s = (s.c, s) ∧ readR8 (.ofField 2) s = (s.d, s) ∧
      readR8 (.ofField 3) s = (s.e, s) ∧ readR8 (.ofField 4) s = (s.h, s) ∧ readR8 (.ofField 5) s = (s.l, s) ∧
      readR8 (.ofField 6) s = busRead (s.h ++ s.l) s ∧ readR8 (.ofField 7) s = (s.a, s)) ∧
    (writeR8 (.ofField 0) v s = { s with b := v } ∧ writeR8 (.ofField 1) v s = { s with c := v } ∧
      writeR8 (.ofField 2) v s = { s with d := v } ∧ writeR8 (.ofField 3) v s = { s with e := v } ∧
      writeR8 (.ofField 4) v s = { s with h := v } ∧ writeR8 (.ofField 5) v s = { s with l := v } ∧
      writeR8 (.ofField 6) v s = busWrite (s.h ++ s.l) v s ∧ writeR8 (.ofField 7) v s = { s with a := v })

/-- rp 0 to 3 selects BC, DE, HL, SP and rp2 0 to 3 selects BC, DE, HL, AF; a pair is its halves, high
register first; a write writes both halves and nothing else, with bits 3:0 of F written as zero. (States
R104.) -/
def Obligations.PairsAreViewsOfTheirHalves : Prop :=
  ∀ (v : Word) (s : State),
    (readRp (.ofField 0) s = s.b ++ s.c ∧ readRp (.ofField 1) s = s.d ++ s.e ∧ readRp (.ofField 2) s = s.h ++ s.l ∧
      readRp (.ofField 3) s = s.sp) ∧
    (readRp2 (.ofField 0) s = s.b ++ s.c ∧ readRp2 (.ofField 1) s = s.d ++ s.e ∧
      readRp2 (.ofField 2) s = s.h ++ s.l ∧ readRp2 (.ofField 3) s = s.a ++ s.f) ∧
    (writeRp (.ofField 0) v s = { s with b := high v, c := low v } ∧
      writeRp (.ofField 1) v s = { s with d := high v, e := low v } ∧
      writeRp (.ofField 2) v s = { s with h := high v, l := low v } ∧ writeRp (.ofField 3) v s = { s with sp := v }) ∧
    (writeRp2 (.ofField 0) v s = { s with b := high v, c := low v } ∧
      writeRp2 (.ofField 1) v s = { s with d := high v, e := low v } ∧
      writeRp2 (.ofField 2) v s = { s with h := high v, l := low v } ∧
      writeRp2 (.ofField 3) v s = { s with a := high v, f := low v &&& 0xF0#8 })

/-- If the core is running, unlocked, with no interrupt to dispatch and the HALT bug not armed, and the bytes
at PC are the encoding of the well-formed instruction i (the block's own bytes, or bytes the collaborators
are loaded with), the step is exec of i in the state with PC past the instruction, ei_pending cleared, the
opcode's address kept and each external fetch in the port's history; then a pending EI sets IME unless i
is DI or raised IllegalOpcode, and the returned count joins the history. Of these the model's own are the
bytes the collaborators are loaded with, which answer a fetch and stay (log 5), the port's history with
the reads in it (log 2), the field opcodePc (log 6) and the count's event in the history (log 7). (From
R102, R575, R580.) -/
def Obligations.AStepRunsTheDecodedInstruction : Prop :=
  ∀ (s : State) (i : Instr), i.wf s.params.stopLength = true → executes s → s.haltBug = false →
    (∀ k (hk : k < (encode i).length), byteAt (s.pc + BitVec.ofNat 16 k) s = some ((encode i)[k])) →
    step s =
      match exec i { s with
          pc := s.pc + BitVec.ofNat 16 (encode i).length
          opcodePc := s.pc
          eiPending := false
          port := (List.range (encode i).length).foldl (fun p k =>
            if peek (s.pc + BitVec.ofNat 16 k) s = none then
              .read (s.pc + BitVec.ofNat 16 k) ((encode i).getD k 0#8) :: p
            else p) s.port } with
      | .next t => .next { t with
          ime := t.ime || (s.eiPending && decide (i ≠ .di) && !t.locked)
          port := .elapsed t.cycles :: t.port }
      | .fault r => .fault r
      | .refused r => .refused r

/-- The opcode fetch reads the byte at PC; with the HALT bug armed it disarms it and leaves PC, otherwise it
advances PC by one; every other fetch of an instruction byte advances PC by one. So under the HALT bug,
for an opcode byte the block owns, a one-byte instruction leaves PC at its own byte, a two-byte one takes
the byte as its own second byte, and a three-byte one as its second byte with the byte after it as its
third. The field opcodePc is the model's own (log 6). (States R101.) -/
def Obligations.TheHaltBugReadsOneByteTwice : Prop :=
  ∀ (s : State),
    (s.haltBug = true → fetchOpcode s =
      ((busRead s.pc s).1, { (busRead s.pc s).2 with haltBug := false, opcodePc := s.pc })) ∧
    (s.haltBug = false → fetchOpcode s =
      ((busRead s.pc s).1, { (busRead s.pc s).2 with pc := s.pc + 1, opcodePc := s.pc })) ∧
    fetch8 s = ((busRead s.pc s).1, { (busRead s.pc s).2 with pc := s.pc + 1 }) ∧
    ∀ op b : Byte, s.haltBug = true → peek s.pc s = some op → peek (s.pc + 1) s = some b →
      let n := instrLength s.params.stopLength op
      (fetchInstr s).op = op ∧
      (fetchInstr s).state = { s with haltBug := false, opcodePc := s.pc, pc := s.pc + BitVec.ofNat 16 (n - 1) } ∧
      ∃ rest, decode s.params.stopLength [op, op, b] = .ok ((fetchInstr s).instr, rest)

/-- An unlocked core that is HALTED with nothing pending, or STOPPED, does nothing in a step but return
IDLE_CYCLES: the block's state is unchanged, and the port's history has no access added, only the caller's
advance (log 7). (States R579.) -/
def Obligations.IdleStepsFetchNothing : Prop :=
  ∀ (s : State), s.locked = false → (s.run = .halted ∧ s.pending = 0#5) ∨ s.run = .stopped →
    step s = .next { s with cycles := s.params.idleCycles, port := .elapsed s.params.idleCycles :: s.port }

/-- For a HALTED core with an interrupt pending the step is that of the same state with the run state RUNNING:
a dispatch in the same step if IME is 1, the next instruction if IME is 0. (From R577, R580.) -/
def Obligations.APendingInterruptWakesAHaltedCore : Prop :=
  ∀ (s : State), s.run = .halted → s.pending ≠ 0#5 → s.locked = false →
    step s = step { s with run := .running } ∧
    (s.ime = true → ∃ t, step s = .next t ∧ t.ime = false ∧ t.run = .running ∧ t.cycles = 20#32 ∧
      t.pc.toNat ∈ [0x0040, 0x0048, 0x0050, 0x0058, 0x0060]) ∧
    (s.ime = false → (fetchInstr s).instr = .nop → s.eiPending = false → ∃ t, step s = .next t ∧
      t.run = .running ∧ t.iflag = s.iflag ∧ t.sp = s.sp ∧ t.cycles = 4#32)

/-- An unlocked core that is RUNNING, or HALTED, with IME = 1 and bit k the lowest set bit of IE & IF & 0x1F:
the step pushes PC (PC - 1 while the HALT bug is armed) high byte first, then clears IME, ei_pending,
halt_bug and IF bit k, sets PC to 0x0040 + 8k and returns 20; every other register is unchanged, and IE
changes only if the push lands on it. The count and the advance of the collaborators after it are kept in
the model's own fields (log 7). (States R570, R571.) -/
def Obligations.InterruptDispatch : Prop :=
  ∀ (s : State) (k : Fin 5), s.locked = false → s.run ≠ .stopped → s.ime = true →
    (∀ j : Fin 5, j ≤ k → (s.ie.getLsbD j && s.iflag.getLsbD j) = decide (j = k)) →
    let u := pushed (if s.haltBug then s.pc - 1 else s.pc) s
    step s = .next { u with
      ime := false, eiPending := false, haltBug := false, run := .running
      iflag := u.iflag &&& ~~~(BitVec.twoPow 5 k)
      pc := BitVec.ofNat 16 (0x0040 + 8 * k)
      cycles := 20#32
      port := .elapsed 20#32 :: u.port }

/-- If the step dispatches an interrupt, with the HALT bug not armed and the two stack bytes in the block's
RAM, then RETI in the state it leaves (with PC past the RETI) gives back PC and SP, sets IME to 1 at once
and leaves IF and every other register alone. (From R571, R572, R573.) -/
def Obligations.DispatchThenRetiResumesTheProgram : Prop :=
  ∀ (s : State) (pc' : Word), s.locked = false → s.run ≠ .stopped → s.ime = true → s.pending ≠ 0#5 →
    s.haltBug = false → isRam (s.sp - 1) → isRam (s.sp - 2) →
    ∃ t u, step s = .next t ∧ exec .reti { t with pc := pc' } = .next u ∧
      u.pc = s.pc ∧ u.sp = s.sp ∧ u.ime = true ∧ u.iflag = t.iflag ∧ u.a = s.a ∧ u.f = s.f ∧ u.b = s.b ∧
      u.c = s.c ∧ u.d = s.d ∧ u.e = s.e ∧ u.h = s.h ∧ u.l = s.l

/-- For each of the five sources k: with IME = 1, IE bit k set and nothing pending, an unlocked core that is
RUNNING or HALTED dispatches it in the step after request(k): PC = 0x0040 + 8k, IME = 0, SP two lower, 20
cycles, and no source is pending any more, if the stack is in the block's RAM. (From R564, R566, R570,
R580.) -/
def Obligations.ARequestedInterruptIsDispatchedAtTheNextStep : Prop :=
  ∀ (s : State) (k : InterruptSource), s.locked = false → s.run ≠ .stopped → s.ime = true →
    s.ie.getLsbD k.code = true → s.pending = 0#5 → isRam (s.sp - 1) → isRam (s.sp - 2) →
    ∃ t, transact (.request k.code) s = .next (request k s) ∧ step (request k s) = .next t ∧
      t.pc.toNat = 0x0040 + 8 * k.code ∧ t.ime = false ∧ t.sp = s.sp - 2 ∧ t.cycles = 20#32 ∧ t.pending = 0#5

/-- request(k) for k in 0..4 sets IF bit k and changes nothing else, so a second one has no further effect;
any other k is refused, which is decision D43 and no rule (log 17, DEDUCED). wake_stop() takes STOPPED to
RUNNING and changes nothing else; in any other run state it has no effect. (From R566, R578, R589.) -/
def Obligations.HostSignalsActOnlyAsStated : Prop :=
  ∀ (s : State),
    (∀ k : Fin 5, ∃ t, transact (.request k) s = .next t ∧ t = { s with iflag := t.iflag } ∧
      (∀ j : Fin 5, t.iflag.getLsbD j = (s.iflag.getLsbD j || decide (j = k))) ∧
      transact (.request k) t = .next t) ∧
    (∀ k : Nat, 5 ≤ k → transact (.request k) s = .refused (.badInterruptSource k)) ∧
    (s.run = .stopped → transact .wakeStop s = .next { s with run := .running }) ∧
    (s.run ≠ .stopped → transact .wakeStop s = .next s)

/-- In a step that executes the instruction i fetched while ei_pending is 1, IME is 1 at the end unless i is
DI, which leaves 0, or raises IllegalOpcode, which leaves IME as it was; ei_pending is 0 afterwards unless
i is itself EI. HALT in that step sees IME as it was before. (From R532, R533, R575.) -/
def Obligations.TheDelayedEnableTakesEffectOneInstructionLater : Prop :=
  ∀ (s : State), executes s → s.eiPending = true →
    let i := (fetchInstr s).instr
    ∃ t, step s = .next t ∧
      (i ≠ .di → isIllegal i = false → t.ime = true) ∧ (i = .di → t.ime = false) ∧
      (isIllegal i = true → t.ime = s.ime ∧ t.locked = true) ∧ (t.eiPending = true ↔ i = .ei) ∧
      (i = .halt → (t.haltBug = true ↔ s.ime = false ∧ s.pending ≠ 0#5))

/-- No state faults or is refused: each step answers a next state, and the count it returns is 4, 8, 12, 16,
20 or 24 base cycles, or IDLE_CYCLES in a core that is not RUNNING, or LOCKED_CYCLES in a locked one; with
the parameters the spec chooses it is 4, 8, 12, 16, 20 or 24. (From R9, R60, R562, R631, R632, R633.) -/
def Obligations.EveryStepCompletesWithACount : Prop :=
  ∀ (s : State), ∃ t, step s = .next t ∧
    (t.cycles.toNat ∈ [4, 8, 12, 16, 20, 24] ∨ (t.run ≠ .running ∧ t.cycles = s.params.idleCycles) ∨
      (t.locked = true ∧ t.cycles = s.params.lockedCycles)) ∧
    (s.params = Params.chosen → t.cycles.toNat ∈ [4, 8, 12, 16, 20, 24])

/-- From a locked state any number of steps leaves everything observe() shows, and memory, unchanged, each
returning LOCKED_CYCLES with no port access; the advance of the collaborators after each step, in the
model's own history, is the model's choice (log 7); request and wake_stop leave it locked; reset unlocks
it. (From R44, R560.) -/
def Obligations.ALockedCoreStaysAsItIs : Prop :=
  ∀ (s : State), s.locked = true →
    (∀ n : Nat, ∃ t, core.run (n + 1) s = .next t ∧ observe t = observe s ∧ t.mem = s.mem ∧
      t.cycles = s.params.lockedCycles ∧
      t.port = List.replicate (n + 1) (.elapsed s.params.lockedCycles) ++ s.port) ∧
    (∀ k, (request k s).locked = true) ∧ (wakeStop s).locked = true ∧
    ∀ bootSkip, (resetBlock bootSkip s).locked = false

/-- From every state that satisfies the invariant (bits 3:0 of F zero, memory in its canonical form, the HALT
bug and a pending EI only in a running, unlocked core and never both, a locked core in the run state
RUNNING) a step answers a state that satisfies it. (From R33, R101, R560, R575.) -/
def Obligations.EveryStepKeepsTheInvariant : Prop :=
  ∀ (s t : State), s.Inv → step s = .next t → t.Inv

/-- From every state that satisfies the invariant any sequence of transactions that is not refused leads to a
state that satisfies it. (From R33, R48, R589.) -/
def Obligations.EveryRunOfTransactionsKeepsTheInvariant : Prop :=
  ∀ (ts : List Transaction) (s t : State), s.Inv → runTransactions ts s = .next t → t.Inv

/-- A step leaves STOPPED alone and leaves HALTED alone while nothing is pending; it ends in HALTED only from
HALTED or by executing HALT, and in STOPPED only from STOPPED or by executing STOP. (From R42, R576,
R578.) -/
def Obligations.TheRunStateChangesOnlyAsTabled : Prop :=
  ∀ (s t : State), step s = .next t →
    (s.run = .stopped → t.run = .stopped) ∧ (s.run = .halted → s.pending = 0#5 → t.run = .halted) ∧
    (t.run = .halted → s.run = .halted ∨ (fetchInstr s).instr = .halt) ∧
    (t.run = .stopped → s.run = .stopped ∨ ∃ ign, (fetchInstr s).instr = .stop ign)

/-- In a state at the end condition LOOP (as the model reads R590, log 18: the jump's own address is that of
its opcode, and IME and IE are those the step leaves) the step leaves memory and all that observe() shows,
but that a HALTED core woken by it runs, an EI pending before it has set IME and a HALT bug is spent. If
the HALT bug was not armed and the jump's bytes are the block's own or bytes the collaborators are loaded
with (log 5), the state after it is at LOOP again, and the next step leaves memory and all that observe()
shows. (From R500, R503, R580, R590.) -/
def Obligations.ASelfLoopIsTheEndOfARun : Prop :=
  ∀ (s : State), s.atSelfLoop = true →
    ∃ t, step s = .next t ∧ t.mem = s.mem ∧
      observe t = { observe s with
        run := .running, eiPending := false, haltBug := false, ime := s.ime || s.eiPending } ∧
      (s.haltBug = false →
        (∀ k, k < (encode (fetchInstr s).instr).length → (byteAt (s.pc + BitVec.ofNat 16 k) s).isSome = true) →
        t.atSelfLoop = true ∧ ∃ u, step t = .next u ∧ observe u = observe t ∧ u.mem = t.mem)

/-- For the 63 forms: the encoding 0b01yyyzzz (that of both operands (HL) is HALT); the source is read first,
with HL as it is then, its byte written to the destination; no flag or other register changes; 4 cycles, 8
with (HL). (States R200.) -/
def Obligations.LoadRegisterFromRegister : Prop :=
  Instr.ldR8R8 .ind .ind = .halt ∧
  ∀ (y z : R8) (s : State), ¬(y = .ind ∧ z = .ind) →
    encode (.ldR8R8 y z) = [0b01#2 ++ code y ++ code z] ∧
    exec (.ldR8R8 y z) s = .next { writeR8 y (readR8 z s).1 (readR8 z s).2 with
      cycles := if y = .ind ∨ z = .ind then 8#32 else 4#32 }

/-- For the 8 forms: the encoding 0b00yyy110 and the immediate; the immediate is written to the operand and
nothing else changes; 8 cycles, 12 for (HL). (States R201.) -/
def Obligations.LoadRegisterImmediate : Prop :=
  ∀ (y : R8) (n : Byte) (s : State),
    encode (.ldR8D8 y n) = [0b00#2 ++ code y ++ 0b110#3, n] ∧
    exec (.ldR8D8 y n) s = .next { writeR8 y n s with cycles := if y = .ind then 12#32 else 8#32 }

/-- LD A,(BC), LD A,(DE), LD A,(a16), LDH A,(a8) and LD A,(C): their encodings; A becomes the byte one bus
read gives at BC, DE, a16, 0xFF00 + a8, 0xFF00 + C; nothing else but the port's history changes; 8, 8, 16,
12 and 8 cycles. (States R202, R203, R206, R208, R210.) -/
def Obligations.AccumulatorLoadsReadTheirAddress : Prop :=
  ∀ (a16 : Word) (a8 : Byte) (s : State),
    let load (addr : Word) (n : BitVec 32) : State :=
      { (busRead addr s).2 with a := (busRead addr s).1, cycles := n }
    (encode .ldAIndBc = [0x0A#8] ∧ exec .ldAIndBc s = .next (load (s.b ++ s.c) 8#32)) ∧
    (encode .ldAIndDe = [0x1A#8] ∧ exec .ldAIndDe s = .next (load (s.d ++ s.e) 8#32)) ∧
    (encode (.ldAIndA16 a16) = [0xFA#8, low a16, high a16] ∧ exec (.ldAIndA16 a16) s = .next (load a16 16#32)) ∧
    (encode (.ldhAIndA8 a8) = [0xF0#8, a8] ∧ exec (.ldhAIndA8 a8) s = .next (load (0xFF#8 ++ a8) 12#32)) ∧
    (encode .ldAIndC = [0xF2#8] ∧ exec .ldAIndC s = .next (load (0xFF#8 ++ s.c) 8#32))

/-- LD (BC),A, LD (DE),A, LD (a16),A, LDH (a8),A and LD (C),A: their encodings; A is written by one bus write
at BC, DE, a16, 0xFF00 + a8, 0xFF00 + C; no register changes; 8, 8, 16, 12 and 8 cycles. (States R204,
R205, R207, R209, R211.) -/
def Obligations.AccumulatorStoresWriteTheirAddress : Prop :=
  ∀ (a16 : Word) (a8 : Byte) (s : State),
    let store (addr : Word) (n : BitVec 32) : State := { busWrite addr s.a s with cycles := n }
    (encode .ldIndBcA = [0x02#8] ∧ exec .ldIndBcA s = .next (store (s.b ++ s.c) 8#32)) ∧
    (encode .ldIndDeA = [0x12#8] ∧ exec .ldIndDeA s = .next (store (s.d ++ s.e) 8#32)) ∧
    (encode (.ldIndA16A a16) = [0xEA#8, low a16, high a16] ∧ exec (.ldIndA16A a16) s = .next (store a16 16#32)) ∧
    (encode (.ldhIndA8A a8) = [0xE0#8, a8] ∧ exec (.ldhIndA8A a8) s = .next (store (0xFF#8 ++ a8) 12#32)) ∧
    (encode .ldIndCA = [0xE2#8] ∧ exec .ldIndCA s = .next (store (0xFF#8 ++ s.c) 8#32))

/-- Their encodings; the access is at HL as it was, and HL is then one higher or lower modulo 65536, in both
halves; nothing else changes; 8 cycles. (States R212, R213, R214, R215.) -/
def Obligations.HlLoadsAndStoresStepHl : Prop :=
  ∀ (s : State),
    let hl : Word := s.h ++ s.l
    let stepped (w : Word) (t : State) : State := { t with h := high w, l := low w, cycles := 8#32 }
    (encode .ldIndHlIncA = [0x22#8] ∧ exec .ldIndHlIncA s = .next (stepped (hl + 1#16) (busWrite hl s.a s))) ∧
    (encode .ldIndHlDecA = [0x32#8] ∧ exec .ldIndHlDecA s = .next (stepped (hl - 1#16) (busWrite hl s.a s))) ∧
    (encode .ldAIndHlInc = [0x2A#8] ∧ exec .ldAIndHlInc s =
      .next (stepped (hl + 1#16) { (busRead hl s).2 with a := (busRead hl s).1 })) ∧
    (encode .ldAIndHlDec = [0x3A#8] ∧ exec .ldAIndHlDec s =
      .next (stepped (hl - 1#16) { (busRead hl s).2 with a := (busRead hl s).1 }))

/-- Their encodings; the immediate goes to BC, DE, HL or SP; SP is stored low byte at a16, then high byte at
a16 + 1 modulo 65536; HL is copied to SP; no flag changes; 12, 20 and 8 cycles. (States R250, R251, R252.) -/
def Obligations.SixteenBitLoads : Prop :=
  ∀ (p : Rp) (n a16 : Word) (s : State),
    (encode (.ldRpD16 p n) = [0b00#2 ++ codeRp p ++ 0b0001#4, low n, high n] ∧
      exec (.ldRpD16 p n) s = .next { writeRp p n s with cycles := 12#32 }) ∧
    (encode (.ldIndA16Sp a16) = [0x08#8, low a16, high a16] ∧ exec (.ldIndA16Sp a16) s =
      .next { busWrite (a16 + 1#16) (high s.sp) (busWrite a16 (low s.sp) s) with cycles := 20#32 }) ∧
    (encode .ldSpHl = [0xF9#8] ∧ exec .ldSpHl s = .next { s with sp := s.h ++ s.l, cycles := 8#32 })

/-- Their encodings; PUSH writes the high byte at SP - 1, then the low byte at SP - 2, and SP is two lower;
POP reads the low byte at SP, then the high byte at SP + 1, writes the pair, with the low nibble of F as
zero for AF, and SP is two higher; nothing else changes; 16 and 12 cycles. A PUSH followed by a POP of the
same pair gives back the pair and SP if the two stack bytes are the block's RAM and the low nibble of F is
zero. (States R253, R254, R255.) -/
def Obligations.PushAndPop : Prop :=
  (∀ (p : Rp2) (s : State),
    (encode (.pushRp2 p) = [0b11#2 ++ codeRp2 p ++ 0b0101#4] ∧
      exec (.pushRp2 p) s = .next { pushed (readRp2 p s) s with cycles := 16#32 }) ∧
    (encode (.popRp2 p) = [0b11#2 ++ codeRp2 p ++ 0b0001#4] ∧
      exec (.popRp2 p) s =
        .next { writeRp2 p (popped s) (popHigh s).2 with sp := s.sp + 2#16, cycles := 12#32 })) ∧
  ∀ (p : Rp2) (s : State), s.f &&& 0x0F#8 = 0#8 → isRam (s.sp - 1) → isRam (s.sp - 2) →
    ∃ t u, exec (.pushRp2 p) s = .next t ∧ exec (.popRp2 p) t = .next u ∧
      readRp2 p u = readRp2 p s ∧ u.sp = s.sp

/-- For the 18 forms: their encodings; A becomes the sum (with flag C as it was, for ADC) modulo 256; Z, N =
0, H the carry out of bit 3, C the carry out of bit 7, carry-in included; nothing else but a port access
changes; 4 cycles, 8 with (HL) or an immediate. (States R301, R302, R303, R304.) -/
def Obligations.AdditionsToA : Prop :=
  ∀ (z : R8) (n : Byte) (s : State),
    let v := (readR8 z s).1
    let t := (readR8 z s).2
    let cy : BitVec 32 := if z = .ind then 8#32 else 4#32
    (encode (.aluR8 .add z) = [0b10000#5 ++ code z] ∧
      exec (.aluR8 .add z) s = .next { t with a := s.a + v, f := addFlags s.a v 0, cycles := cy }) ∧
    (encode (.aluR8 .adc z) = [0b10001#5 ++ code z] ∧
      exec (.aluR8 .adc z) s = .next { t with
        a := s.a + v + carry s, f := addFlags s.a v (carry s).toNat, cycles := cy }) ∧
    (encode (.aluD8 .add n) = [0xC6#8, n] ∧
      exec (.aluD8 .add n) s = .next { s with a := s.a + n, f := addFlags s.a n 0, cycles := 8#32 }) ∧
    (encode (.aluD8 .adc n) = [0xCE#8, n] ∧
      exec (.aluD8 .adc n) s = .next { s with
        a := s.a + n + carry s, f := addFlags s.a n (carry s).toNat, cycles := 8#32 })

/-- For the 27 forms: their encodings; A becomes the difference (less flag C as it was, for SBC) modulo 256,
and stays as it was for CP; Z, N = 1, H the borrow out of the low nibble, C the borrow, borrow-in
included; nothing else but a port access changes; 4 cycles, 8 with (HL) or an immediate. (States R305,
R306, R307, R308, R315, R316.) -/
def Obligations.SubtractionsFromA : Prop :=
  ∀ (z : R8) (n : Byte) (s : State),
    let v := (readR8 z s).1
    let t := (readR8 z s).2
    let cy : BitVec 32 := if z = .ind then 8#32 else 4#32
    (encode (.aluR8 .sub z) = [0b10010#5 ++ code z] ∧
      exec (.aluR8 .sub z) s = .next { t with a := s.a - v, f := subFlags s.a v 0, cycles := cy }) ∧
    (encode (.aluR8 .sbc z) = [0b10011#5 ++ code z] ∧
      exec (.aluR8 .sbc z) s = .next { t with
        a := s.a - v - carry s, f := subFlags s.a v (carry s).toNat, cycles := cy }) ∧
    (encode (.aluR8 .cp z) = [0b10111#5 ++ code z] ∧
      exec (.aluR8 .cp z) s = .next { t with f := subFlags s.a v 0, cycles := cy }) ∧
    (encode (.aluD8 .sub n) = [0xD6#8, n] ∧
      exec (.aluD8 .sub n) s = .next { s with a := s.a - n, f := subFlags s.a n 0, cycles := 8#32 }) ∧
    (encode (.aluD8 .sbc n) = [0xDE#8, n] ∧
      exec (.aluD8 .sbc n) s = .next { s with
        a := s.a - n - carry s, f := subFlags s.a n (carry s).toNat, cycles := 8#32 }) ∧
    (encode (.aluD8 .cp n) = [0xFE#8, n] ∧
      exec (.aluD8 .cp n) s = .next { s with f := subFlags s.a n 0, cycles := 8#32 })

/-- For the 27 forms: their encodings; A becomes the bitwise and, exclusive or, or; Z from the result, N = 0,
H = 1 for AND and 0 otherwise, C = 0; nothing else but a port access changes; 4 cycles, 8 with (HL) or an
immediate. (States R309, R310, R311, R312, R313, R314.) -/
def Obligations.LogicOnA : Prop :=
  ∀ (z : R8) (n : Byte) (s : State),
    let v := (readR8 z s).1
    let t := (readR8 z s).2
    let cy : BitVec 32 := if z = .ind then 8#32 else 4#32
    let zero (r : Byte) : Bool := decide (r.toNat = 0)
    (encode (.aluR8 .and z) = [0b10100#5 ++ code z] ∧ exec (.aluR8 .and z) s =
      .next { t with a := s.a &&& v, f := flagByte (zero (s.a &&& v)) false true false, cycles := cy }) ∧
    (encode (.aluR8 .xor z) = [0b10101#5 ++ code z] ∧ exec (.aluR8 .xor z) s =
      .next { t with a := s.a ^^^ v, f := flagByte (zero (s.a ^^^ v)) false false false, cycles := cy }) ∧
    (encode (.aluR8 .or z) = [0b10110#5 ++ code z] ∧ exec (.aluR8 .or z) s =
      .next { t with a := s.a ||| v, f := flagByte (zero (s.a ||| v)) false false false, cycles := cy }) ∧
    (encode (.aluD8 .and n) = [0xE6#8, n] ∧ exec (.aluD8 .and n) s =
      .next { s with a := s.a &&& n, f := flagByte (zero (s.a &&& n)) false true false, cycles := 8#32 }) ∧
    (encode (.aluD8 .xor n) = [0xEE#8, n] ∧ exec (.aluD8 .xor n) s =
      .next { s with a := s.a ^^^ n, f := flagByte (zero (s.a ^^^ n)) false false false, cycles := 8#32 }) ∧
    (encode (.aluD8 .or n) = [0xF6#8, n] ∧ exec (.aluD8 .or n) s =
      .next { s with a := s.a ||| n, f := flagByte (zero (s.a ||| n)) false false false, cycles := 8#32 })

/-- For the 16 forms: their encodings; the operand becomes its value plus or minus one modulo 256; Z from the
result, N 0 or 1, H set if the low nibble was 0xF or 0x0, flag C as it was; nothing else but a port access
changes; 4 cycles, 12 for (HL), which is read and then written. (States R317, R318.) -/
def Obligations.IncrementAndDecrementKeepCarry : Prop :=
  ∀ (y : R8) (s : State),
    let v := (readR8 y s).1
    let t := (readR8 y s).2
    let cy : BitVec 32 := if y = .ind then 12#32 else 4#32
    (encode (.incR8 y) = [0b00#2 ++ code y ++ 0b100#3] ∧ exec (.incR8 y) s =
      .next { writeR8 y (v + 1#8) t with
        f := flagByte (decide (v.toNat = 0xFF)) false (decide (v.toNat % 16 = 0xF)) (fC s), cycles := cy }) ∧
    (encode (.decR8 y) = [0b00#2 ++ code y ++ 0b101#3] ∧ exec (.decR8 y) s =
      .next { writeR8 y (v - 1#8) t with
        f := flagByte (decide (v.toNat = 0x01)) true (decide (v.toNat % 16 = 0x0)) (fC s), cycles := cy })

/-- Its encoding; after an addition (N = 0) 0x60 is added to A if C is 1 or A is above 0x99, and C is then 1,
and 0x06 if H is 1 or the low nibble is above 9; after a subtraction (N = 1) 0x60 is subtracted if C is 1
and 0x06 if H is 1, and C stays; modulo 256; Z from the result, N as it was, H = 0; 4 cycles; nothing else
changes. (States R319.) -/
def Obligations.DecimalAdjust : Prop :=
  ∀ (s : State),
    let carries := fC s || (!fN s && decide (s.a.toNat > 0x99))
    let r : Byte :=
      if fN s then s.a - (if fC s then 0x60#8 else 0#8) - (if fH s then 0x06#8 else 0#8)
      else s.a + (if carries then 0x60#8 else 0#8) +
        (if fH s || decide (s.a.toNat % 16 > 0x09) then 0x06#8 else 0#8)
    encode .daa = [0x27#8] ∧
    exec .daa s = .next { s with a := r, f := flagByte (decide (r.toNat = 0)) (fN s) false carries, cycles := 4#32 }

/-- If A and the immediate are each two decimal digits, ADD A,d8 followed by DAA leaves in A the two digits of
their sum modulo 100, and in flag C whether the sum is 100 or more. (From R302, R319.) -/
def Obligations.DecimalAdjustGivesThePackedSum : Prop :=
  ∀ (s : State) (n : Byte), s.a.toNat / 16 ≤ 9 → s.a.toNat % 16 ≤ 9 → n.toNat / 16 ≤ 9 → n.toNat % 16 ≤ 9 →
    let sum := (10 * (s.a.toNat / 16) + s.a.toNat % 16) + (10 * (n.toNat / 16) + n.toNat % 16)
    ∃ t u, exec (.addAD8 n) s = .next t ∧ exec .daa t = .next u ∧
      u.a.toNat = 16 * (sum / 10 % 10) + sum % 10 ∧ fC u = decide (sum ≥ 100)

/-- Their encodings; CPL complements A and sets N and H; SCF sets C, CCF complements C, both clear N and H;
the other flags and registers are unchanged; 4 cycles. (States R320, R321, R322.) -/
def Obligations.ComplementAndCarryFlag : Prop :=
  ∀ (s : State),
    (encode .cpl = [0x2F#8] ∧
      exec .cpl s = .next { s with a := ~~~s.a, f := flagByte (fZ s) true true (fC s), cycles := 4#32 }) ∧
    (encode .scf = [0x37#8] ∧
      exec .scf s = .next { s with f := flagByte (fZ s) false false true, cycles := 4#32 }) ∧
    (encode .ccf = [0x3F#8] ∧
      exec .ccf s = .next { s with f := flagByte (fZ s) false false (!fC s), cycles := 4#32 })

/-- For the 12 forms: their encodings; INC and DEC change the pair or SP by one modulo 65536 and no flag; ADD
HL adds it to HL modulo 65536, keeps Z, clears N, with H the carry out of bit 11 and C out of bit 15;
nothing else changes; 8 cycles. (States R350, R351, R352.) -/
def Obligations.SixteenBitArithmeticOnPairs : Prop :=
  ∀ (p : Rp) (s : State),
    let hl : Word := s.h ++ s.l
    let v := readRp p s
    (encode (.incRp p) = [0b00#2 ++ codeRp p ++ 0b0011#4] ∧
      exec (.incRp p) s = .next { writeRp p (v + 1#16) s with cycles := 8#32 }) ∧
    (encode (.decRp p) = [0b00#2 ++ codeRp p ++ 0b1011#4] ∧
      exec (.decRp p) s = .next { writeRp p (v - 1#16) s with cycles := 8#32 }) ∧
    (encode (.addHlRp p) = [0b00#2 ++ codeRp p ++ 0b1001#4] ∧
      exec (.addHlRp p) s = .next { s with
        h := high (hl + v), l := low (hl + v)
        f := flagByte (fZ s) false (decide (hl.toNat % 4096 + v.toNat % 4096 ≥ 4096))
          (decide (hl.toNat + v.toNat ≥ 65536))
        cycles := 8#32 })

/-- Their encodings; the result is SP plus the signed displacement modulo 65536; Z and N are cleared, H and C
are the carries out of bits 3 and 7 of the unsigned sum of the low byte of SP and the raw byte; the result
goes to SP, or to HL with SP unchanged; 16 and 12 cycles. (States R353, R354, R355.) -/
def Obligations.StackPointerPlusDisplacement : Prop :=
  ∀ (e : Byte) (s : State),
    let r : Word := if e.toNat < 0x80 then s.sp + e.setWidth 16 else s.sp + (e.setWidth 16 + 0xFF00#16)
    let f : Byte := flagByte false false (decide (s.sp.toNat % 16 + e.toNat % 16 > 0x0F))
      (decide (s.sp.toNat % 256 + e.toNat > 0xFF))
    (encode (.addSpE8 e) = [0xE8#8, e] ∧ exec (.addSpE8 e) s = .next { s with sp := r, f := f, cycles := 16#32 }) ∧
    (encode (.ldHlSpE8 e) = [0xF8#8, e] ∧
      exec (.ldHlSpE8 e) s = .next { s with h := high r, l := low r, f := f, cycles := 12#32 })

/-- Their encodings; A is rotated by one bit, through flag C for RLA and RRA; C is the bit shifted out; Z, N
and H are cleared; nothing else changes; 4 cycles. (States R400, R401, R402, R403.) -/
def Obligations.AccumulatorRotatesClearZero : Prop :=
  ∀ (s : State),
    let after (op : RotOp) : State := { s with
      a := (rotated op s.a (fC s)).1, f := flagByte false false false (rotated op s.a (fC s)).2, cycles := 4#32 }
    (encode .rlca = [0x07#8] ∧ exec .rlca s = .next (after .rlc)) ∧
    (encode .rrca = [0x0F#8] ∧ exec .rrca s = .next (after .rrc)) ∧
    (encode .rla = [0x17#8] ∧ exec .rla s = .next (after .rl)) ∧
    (encode .rra = [0x1F#8] ∧ exec .rra s = .next (after .rr))

/-- For the 64 forms: their encodings, the operation in bits 5:3 and the operand in bits 2:0 of the byte after
0xCB; the operand is read once and the result written once; Z from the result, N and H cleared, C the bit
shifted out, 0 for SWAP; nothing else changes; 8 cycles, 16 with (HL). (States R404, R405, R406, R407,
R408, R409, R410, R411.) -/
def Obligations.RotatesAndShiftsOfOperands : Prop :=
  ∀ (op : RotOp) (z : R8) (s : State),
    let r := rotated op (readR8 z s).1 (fC s)
    encode (.rotR8 op z) = [0xCB#8, 0b00#2 ++ (match op with
      | .rlc => 0b000#3 | .rrc => 0b001#3 | .rl => 0b010#3 | .rr => 0b011#3
      | .sla => 0b100#3 | .sra => 0b101#3 | .swap => 0b110#3 | .srl => 0b111#3) ++ code z] ∧
    exec (.rotR8 op z) s = .next { writeR8 z r.1 (readR8 z s).2 with
      f := flagByte (decide (r.1.toNat = 0)) false false r.2
      cycles := if z = .ind then 16#32 else 8#32 }

/-- For the 64 forms: their encodings; Z is the complement of the bit, N = 0, H = 1, flag C as it was; the
operand is read once and not written; nothing else changes; 8 cycles, 12 with (HL). (States R450.) -/
def Obligations.BitTestKeepsTheOperand : Prop :=
  ∀ (b : Fin 8) (z : R8) (s : State),
    encode (.bitR8 b z) = [0xCB#8, 0b01#2 ++ BitVec.ofNat 3 b ++ code z] ∧
    exec (.bitR8 b z) s = .next { (readR8 z s).2 with
      f := flagByte (!(readR8 z s).1.getLsbD b) false true (fC s)
      cycles := if z = .ind then 12#32 else 8#32 }

/-- For the 128 forms: their encodings; the operand is read once and written once with bit b cleared or set
and every other bit as it was; no flag and nothing else changes; 8 cycles, 16 with (HL). (States R451,
R452.) -/
def Obligations.BitResetAndSetChangeOneBit : Prop :=
  ∀ (b : Fin 8) (z : R8) (s : State),
    let v := (readR8 z s).1
    let put (r : Byte) : State := { writeR8 z r (readR8 z s).2 with cycles := if z = .ind then 16#32 else 8#32 }
    encode (.resR8 b z) = [0xCB#8, 0b10#2 ++ BitVec.ofNat 3 b ++ code z] ∧
    encode (.setR8 b z) = [0xCB#8, 0b11#2 ++ BitVec.ofNat 3 b ++ code z] ∧
    ∀ r : Byte,
      ((∀ j : Fin 8, r.getLsbD j = (v.getLsbD j && decide (j ≠ b))) → exec (.resR8 b z) s = .next (put r)) ∧
      ((∀ j : Fin 8, r.getLsbD j = (v.getLsbD j || decide (j = b))) → exec (.setR8 b z) s = .next (put r))

/-- Their encodings; PC becomes a16, HL, or the address after the instruction plus the signed displacement
modulo 65536; a conditional jump whose condition fails leaves PC after the instruction; no flag or
register else changes; 16, 16 or 12, 4, 12, 12 or 8 cycles. (States R500, R501, R502, R503, R504.) -/
def Obligations.JumpsGoToTheirTarget : Prop :=
  ∀ (cc : Cc) (a16 : Word) (e : Byte) (s : State),
    let target : Word := if e.toNat < 0x80 then s.pc + e.setWidth 16 else s.pc + (e.setWidth 16 + 0xFF00#16)
    (encode (.jpA16 a16) = [0xC3#8, low a16, high a16] ∧
      exec (.jpA16 a16) s = .next { s with pc := a16, cycles := 16#32 }) ∧
    (encode (.jpCc cc a16) = [0b110#3 ++ codeCc cc ++ 0b010#3, low a16, high a16] ∧
      exec (.jpCc cc a16) s = .next (if holds cc s then { s with pc := a16, cycles := 16#32 }
        else { s with cycles := 12#32 })) ∧
    (encode .jpHl = [0xE9#8] ∧ exec .jpHl s = .next { s with pc := s.h ++ s.l, cycles := 4#32 }) ∧
    (encode (.jrE8 e) = [0x18#8, e] ∧ exec (.jrE8 e) s = .next { s with pc := target, cycles := 12#32 }) ∧
    (encode (.jrCc cc e) = [0b001#3 ++ codeCc cc ++ 0b000#3, e] ∧
      exec (.jrCc cc e) s = .next (if holds cc s then { s with pc := target, cycles := 12#32 }
        else { s with cycles := 8#32 }))

/-- Their encodings; the address after the instruction is pushed, high byte first, and PC becomes a16 or 8*y;
a conditional call whose condition fails touches neither the stack nor PC; no flag changes; 24, 24 or 12,
16 cycles. (States R505, R506, R510.) -/
def Obligations.CallsAndRestartsPushTheReturnAddress : Prop :=
  ∀ (cc : Cc) (y : Fin 8) (a16 : Word) (s : State),
    (encode (.callA16 a16) = [0xCD#8, low a16, high a16] ∧
      exec (.callA16 a16) s = .next { pushed s.pc s with pc := a16, cycles := 24#32 }) ∧
    (encode (.callCc cc a16) = [0b110#3 ++ codeCc cc ++ 0b100#3, low a16, high a16] ∧
      exec (.callCc cc a16) s = .next (if holds cc s then { pushed s.pc s with pc := a16, cycles := 24#32 }
        else { s with cycles := 12#32 })) ∧
    (encode (.rst y) = [0b11#2 ++ BitVec.ofNat 3 y ++ 0b111#3] ∧
      exec (.rst y) s = .next { pushed s.pc s with pc := BitVec.ofNat 16 (8 * y), cycles := 16#32 })

/-- Their encodings; PC becomes the popped word, low byte read first, and SP is two higher; RETI also sets IME
at once and leaves ei_pending; a conditional return whose condition fails touches neither the stack nor
PC; no flag changes; 16, 20 or 8, 16 cycles. (States R507, R508, R509.) -/
def Obligations.ReturnsPopTheReturnAddress : Prop :=
  ∀ (cc : Cc) (s : State),
    let returned (n : BitVec 32) : State := { (popHigh s).2 with pc := popped s, sp := s.sp + 2#16, cycles := n }
    (encode .ret = [0xC9#8] ∧ exec .ret s = .next (returned 16#32)) ∧
    (encode (.retCc cc) = [0b110#3 ++ codeCc cc ++ 0b000#3] ∧
      exec (.retCc cc) s = .next (if holds cc s then returned 20#32 else { s with cycles := 8#32 })) ∧
    (encode .reti = [0xD9#8] ∧ exec .reti s = .next { returned 16#32 with ime := true })

/-- Its encoding; with IME = 0 and a bit of IE & IF & 0x1F set it sets halt_bug and the core stays RUNNING,
otherwise the run state becomes HALTED; nothing else changes; 4 cycles. (States R530.) -/
def Obligations.HaltStopsOrArmsTheHaltBug : Prop :=
  ∀ (s : State),
    encode .halt = [0x76#8] ∧
    exec .halt s = .next (if s.ime = false ∧ s.ie.toNat % 32 &&& s.iflag.toNat ≠ 0 then
        { s with haltBug := true, cycles := 4#32 }
      else { s with run := .halted, cycles := 4#32 })

/-- Their encodings, STOP with its ignored byte, which is absent if STOP_LENGTH is 1; STOP sets the run state
STOPPED, DI clears IME and ei_pending at once, EI sets ei_pending, NOP changes nothing; each leaves
everything else and takes 4 cycles. (States R531, R532, R533, R534.) -/
def Obligations.StopDiEiAndNop : Prop :=
  ∀ (b : Byte) (ign : Option Byte) (s : State),
    (encode (.stop (some b)) = [0x10#8, b] ∧ encode (.stop none) = [0x10#8] ∧
      exec (.stop ign) s = .next { s with run := .stopped, cycles := 4#32 }) ∧
    (encode .di = [0xF3#8] ∧ exec .di s = .next { s with ime := false, eiPending := false, cycles := 4#32 }) ∧
    (encode .ei = [0xFB#8] ∧ exec .ei s = .next { s with eiPending := true, cycles := 4#32 }) ∧
    (encode .nop = [0x00#8] ∧ exec .nop s = .next { s with cycles := 4#32 })

/-- The pair 0xCB, b decodes to the CB-table entry b, one of the 256 well-formed instructions encoded as that
pair, and executing the table's PREFIX CB row with that byte is executing that entry: the same next state,
in 8, 12 or 16 cycles. (States R535.) -/
def Obligations.ThePrefixSelectsTheCbTable : Prop :=
  ∀ (n : StopLength) (b : Byte) (s : State),
    decode n [0xCB#8, b] = .ok (cbCell b, []) ∧ (cbCell b).wf n = true ∧ encode (cbCell b) = [0xCB#8, b] ∧
    ∃ t, exec (.prefixCb b) s = .next t ∧ exec (cbCell b) s = .next t ∧ t.cycles.toNat ∈ [8, 12, 16]

/-- For each: its encoding, one byte; executing it sets locked, records the opcode and the address it was read
from, returns LOCKED_CYCLES and changes nothing else. A step of a core that executes with the illegal
byte, one the block owns, at PC leaves PC one higher (unchanged if the HALT bug was armed), does not apply
a pending EI, and leaves IME, the registers and memory alone. The fields opcodePc, cycles and port are the
model's own (log 6, log 7). (States R536.) -/
def Obligations.IllegalOpcodesLockTheCore : Prop :=
  ∀ (i : Instr) (op : Byte) (s : State), (i, op) ∈ illegalTable →
    encode i = [op] ∧
    exec i s = .next { s with
      locked := true, illegalOpcode := op, illegalPc := s.opcodePc, cycles := s.params.lockedCycles } ∧
    (executes s → peek s.pc s = some op →
      step s = .next { s with
        locked := true, illegalOpcode := op, illegalPc := s.pc, cycles := s.params.lockedCycles, opcodePc := s.pc
        pc := if s.haltBug then s.pc else s.pc + 1, haltBug := false, eiPending := false
        port := .elapsed s.params.lockedCycles :: s.port })

/-- For every instruction and every state: with the addresses it stores to computed as its meaning computes
them (none for a form that stores nothing), every address whose location is none of theirs reads after it
as before, IF and IE among them. The bytes the collaborators are loaded with read as before too, after a
store to the ROM region as well, which is the model's choice (log 5), not the spec's. (From R60, R61,
R69.) -/
def Obligations.StoresReachOnlyTheirAddress : Prop :=
  ∀ (i : Instr) (s t : State), exec i s = .next t →
    ∀ a : Word, (∀ w ∈ storesTo i s, location w ≠ location a) → byteAt a t = byteAt a s

/-- An instruction that no rule names as a writer of F, of SP or of PC leaves it; only DI and RETI change IME,
only EI and DI change ei_pending, only HALT changes halt_bug, only HALT and STOP change the run state,
only the illegal opcodes change the lock and its record; and an interrupt register changes only where a
store reaches its address. No instruction changes the parameters (R9, log 9), nor the model's own field
opcodePc, which the opcode fetch alone writes (log 6, DESIGN CHOICE). (From R9, R35, R36, R37, R38, R39,
R42, R43, R44.) -/
def Obligations.OnlyTheNamedInstructionsWriteTheSpecialState : Prop :=
  ∀ (i : Instr) (s t : State), exec i s = .next t →
    (writesF i = false → t.f = s.f) ∧ (writesSp i = false → t.sp = s.sp) ∧ (writesPc i = false → t.pc = s.pc) ∧
    (i ≠ .di → i ≠ .reti → t.ime = s.ime) ∧ (i ≠ .ei → i ≠ .di → t.eiPending = s.eiPending) ∧
    (i ≠ .halt → t.haltBug = s.haltBug) ∧ (i ≠ .halt → (∀ ign, i ≠ .stop ign) → t.run = s.run) ∧
    (isIllegal i = false → t.locked = s.locked ∧ t.illegalOpcode = s.illegalOpcode ∧ t.illegalPc = s.illegalPc) ∧
    (0xFFFF#16 ∉ storesTo i s → t.ie = s.ie) ∧ (0xFF0F#16 ∉ storesTo i s → t.iflag = s.iflag) ∧
    t.params = s.params ∧ t.opcodePc = s.opcodePc

/-- If an instruction makes no port access in a state, then in the same state with any other history of the
port it makes none either and leaves the same state: what the collaborators did before cannot reach it.
(From R62, R582.) -/
def Obligations.OnlyPortRepliesReachTheBlock : Prop :=
  ∀ (i : Instr) (s t : State) (p : List PortEvent), exec i s = .next t → t.port = s.port →
    exec i { s with port := p } = .next { t with port := p }

/-- Any sequence of steps, requests, wakes and resets leaves the parameters as they were; and the machine's
reset state has the values in brackets of R9. That State holds them is the model's choice (log 9). (From
R9, R48, R589.) -/
def Obligations.NoTransactionChangesTheParameters : Prop :=
  (∀ (ts : List Transaction) (s t : State), runTransactions ts s = .next t → t.params = s.params) ∧
  State.reset.params =
    { openBus := 0xFF#8, ifUnusedBits := 0b111#3, stopLength := .two, idleCycles := 4#32, lockedCycles := 4#32
      ramFill := 0x00#8 }
end

