-- ==== Sys2Proof/Laws/Memory.lean ====
section
/-! SUPPORT. The laws of memory: a cell after a write, every other cell, and the canonical form, for every
operation of Machine/Ops.lean on a `Memory`. -/

namespace Sys2Proof.Machine.Memory

variable {m : Memory} {n k : Nat} {v fill : Byte}

@[simp] theorem find_put_self : find (put m n v) n = some v := by
  induction m with
  | nil => simp [put, find]
  | cons x m ih =>
    simp only [put]
    split
    · simp [find]
    · split
      · simp [find]
      · rename_i h
        simp [find, Ne.symm h, ih]

theorem find_put_ne (h : k ≠ n) : find (put m n v) k = find m k := by
  induction m with
  | nil => simp [put, find, h.symm]
  | cons x m ih =>
    simp only [put]
    split
    · simp [find, h.symm]
    · split
      · rename_i hx
        simp [find, ← hx, h.symm]
      · simp [find, ih]

@[simp] theorem find_remove_self : find (remove m n) n = none := by
  induction m with
  | nil => rfl
  | cons x m ih =>
    simp only [remove]
    split
    · exact ih
    · simp_all [find]

theorem find_remove_ne (h : k ≠ n) : find (remove m n) k = find m k := by
  induction m with
  | nil => rfl
  | cons x m ih =>
    simp only [remove]
    split
    · rename_i hx
      simp [find, hx, h.symm, ih]
    · simp [find, ih]

theorem find_store_ne (h : k ≠ n) : find (store fill m n v) k = find m k := by
  unfold store
  split
  · exact find_remove_ne h
  · exact find_put_ne h

/-- A write of a RAM cell is read back. -/
theorem ram_store_self (h : ramAddress n = true) : ram fill (store fill m n v) n = v := by
  unfold ram store
  split
  · simp_all [unlisted]
  · simp

theorem ram_store_ne (h : k ≠ n) : ram fill (store fill m n v) k = ram fill m k := by
  simp [ram, find_store_ne h]

theorem mem_put {x : Host.Cell} (h : x ∈ put m n v) : x = (n, v) ∨ x ∈ m := by
  induction m with
  | nil => simpa [put] using h
  | cons y m ih =>
    simp only [put] at h
    split at h
    · simpa using h
    · split at h
      · simp at h ⊢; tauto
      · simp at h ⊢; rcases h with h | h
        · tauto
        · have := ih h; tauto

theorem mem_of_mem_remove {x : Host.Cell} (h : x ∈ remove m n) : x ∈ m := by
  induction m with
  | nil => exact h
  | cons y m ih =>
    simp only [remove] at h
    split at h
    · exact List.mem_cons_of_mem _ (ih h)
    · simp at h ⊢; rcases h with h | h
      · exact .inl h
      · exact .inr (ih h)

theorem wf_nil : wf fill [] := ⟨.nil, by simp⟩

/-- Listing a cell that may be listed keeps the canonical form. -/
theorem wf_put (hm : wf fill m) (hc : cellOk fill (n, v) = true) : wf fill (put m n v) := by
  refine ⟨?_, fun x hx => ?_⟩
  · obtain ⟨hp, -⟩ := hm
    induction m with
    | nil => simp [put]
    | cons y m ih =>
      rw [List.pairwise_cons] at hp
      simp only [put]
      split
      · rename_i h
        refine List.pairwise_cons.2 ⟨fun z hz => ?_, List.pairwise_cons.2 hp⟩
        rcases List.mem_cons.1 hz with rfl | hz
        · exact h
        · exact h.trans (hp.1 z hz)
      · split
        · rename_i h
          exact List.pairwise_cons.2 ⟨fun z hz => h ▸ hp.1 z hz, hp.2⟩
        · refine List.pairwise_cons.2 ⟨fun z hz => ?_, ih hp.2⟩
          rcases mem_put hz with rfl | hz
          · simp only; omega
          · exact hp.1 z hz
  · rcases mem_put hx with rfl | hx
    · exact hc
    · exact hm.2 x hx

theorem wf_remove (hm : wf fill m) : wf fill (remove m n) := by
  refine ⟨?_, fun x hx => hm.2 x (mem_of_mem_remove hx)⟩
  obtain ⟨hp, -⟩ := hm
  induction m with
  | nil => simp [remove]
  | cons y m ih =>
    rw [List.pairwise_cons] at hp
    simp only [remove]
    split
    · exact ih hp.2
    · exact List.pairwise_cons.2 ⟨fun z hz => hp.1 z (mem_of_mem_remove hz), ih hp.2⟩

/-- A write of a RAM cell keeps the canonical form. -/
theorem wf_store (hm : wf fill m) (h : ramAddress n = true) : wf fill (store fill m n v) := by
  unfold store
  split
  · exact wf_remove hm
  · rename_i hu
    exact wf_put hm (by simp [cellOk, h, hu])

theorem wf_filter {p : Host.Cell → Bool} (hm : wf fill m) : wf fill (List.filter p m) :=
  ⟨hm.1.filter p, fun x hx => hm.2 x (List.mem_filter.1 hx).1⟩

end Sys2Proof.Machine.Memory
end

