-- ==== Sys2Proof/Laws/State.lean ====
section
/-! SUPPORT. One lemma per field per named register update (Machine/Ops.lean, Machine/Flags.lean), so that no
proof unfolds a record update. -/

namespace Sys2Proof.Machine

variable (s : State)

@[simp] theorem State.writeF_a (v : Byte) : (s.writeF v).a = s.a := rfl
@[simp] theorem State.writeF_f (v : Byte) : (s.writeF v).f = v &&& 0xF0#8 := rfl
@[simp] theorem State.writeF_b (v : Byte) : (s.writeF v).b = s.b := rfl
@[simp] theorem State.writeF_c (v : Byte) : (s.writeF v).c = s.c := rfl
@[simp] theorem State.writeF_d (v : Byte) : (s.writeF v).d = s.d := rfl
@[simp] theorem State.writeF_e (v : Byte) : (s.writeF v).e = s.e := rfl
@[simp] theorem State.writeF_h (v : Byte) : (s.writeF v).h = s.h := rfl
@[simp] theorem State.writeF_l (v : Byte) : (s.writeF v).l = s.l := rfl
@[simp] theorem State.writeF_sp (v : Byte) : (s.writeF v).sp = s.sp := rfl
@[simp] theorem State.writeF_pc (v : Byte) : (s.writeF v).pc = s.pc := rfl
@[simp] theorem State.writeF_ime (v : Byte) : (s.writeF v).ime = s.ime := rfl
@[simp] theorem State.writeF_eiPending (v : Byte) : (s.writeF v).eiPending = s.eiPending := rfl
@[simp] theorem State.writeF_ie (v : Byte) : (s.writeF v).ie = s.ie := rfl
@[simp] theorem State.writeF_iflag (v : Byte) : (s.writeF v).iflag = s.iflag := rfl
@[simp] theorem State.writeF_run (v : Byte) : (s.writeF v).run = s.run := rfl
@[simp] theorem State.writeF_haltBug (v : Byte) : (s.writeF v).haltBug = s.haltBug := rfl
@[simp] theorem State.writeF_locked (v : Byte) : (s.writeF v).locked = s.locked := rfl
@[simp] theorem State.writeF_illegalOpcode (v : Byte) : (s.writeF v).illegalOpcode = s.illegalOpcode := rfl
@[simp] theorem State.writeF_illegalPc (v : Byte) : (s.writeF v).illegalPc = s.illegalPc := rfl
@[simp] theorem State.writeF_mem (v : Byte) : (s.writeF v).mem = s.mem := rfl
@[simp] theorem State.writeF_port (v : Byte) : (s.writeF v).port = s.port := rfl
@[simp] theorem State.writeF_opcodePc (v : Byte) : (s.writeF v).opcodePc = s.opcodePc := rfl
@[simp] theorem State.writeF_cycles (v : Byte) : (s.writeF v).cycles = s.cycles := rfl
@[simp] theorem State.writeF_params (v : Byte) : (s.writeF v).params = s.params := rfl

@[simp] theorem State.setA_a (v : Byte) : (s.setA v).a = v := rfl
@[simp] theorem State.setA_f (v : Byte) : (s.setA v).f = s.f := rfl
@[simp] theorem State.setA_b (v : Byte) : (s.setA v).b = s.b := rfl
@[simp] theorem State.setA_c (v : Byte) : (s.setA v).c = s.c := rfl
@[simp] theorem State.setA_d (v : Byte) : (s.setA v).d = s.d := rfl
@[simp] theorem State.setA_e (v : Byte) : (s.setA v).e = s.e := rfl
@[simp] theorem State.setA_h (v : Byte) : (s.setA v).h = s.h := rfl
@[simp] theorem State.setA_l (v : Byte) : (s.setA v).l = s.l := rfl
@[simp] theorem State.setA_sp (v : Byte) : (s.setA v).sp = s.sp := rfl
@[simp] theorem State.setA_pc (v : Byte) : (s.setA v).pc = s.pc := rfl
@[simp] theorem State.setA_ime (v : Byte) : (s.setA v).ime = s.ime := rfl
@[simp] theorem State.setA_eiPending (v : Byte) : (s.setA v).eiPending = s.eiPending := rfl
@[simp] theorem State.setA_ie (v : Byte) : (s.setA v).ie = s.ie := rfl
@[simp] theorem State.setA_iflag (v : Byte) : (s.setA v).iflag = s.iflag := rfl
@[simp] theorem State.setA_run (v : Byte) : (s.setA v).run = s.run := rfl
@[simp] theorem State.setA_haltBug (v : Byte) : (s.setA v).haltBug = s.haltBug := rfl
@[simp] theorem State.setA_locked (v : Byte) : (s.setA v).locked = s.locked := rfl
@[simp] theorem State.setA_illegalOpcode (v : Byte) : (s.setA v).illegalOpcode = s.illegalOpcode := rfl
@[simp] theorem State.setA_illegalPc (v : Byte) : (s.setA v).illegalPc = s.illegalPc := rfl
@[simp] theorem State.setA_mem (v : Byte) : (s.setA v).mem = s.mem := rfl
@[simp] theorem State.setA_port (v : Byte) : (s.setA v).port = s.port := rfl
@[simp] theorem State.setA_opcodePc (v : Byte) : (s.setA v).opcodePc = s.opcodePc := rfl
@[simp] theorem State.setA_cycles (v : Byte) : (s.setA v).cycles = s.cycles := rfl
@[simp] theorem State.setA_params (v : Byte) : (s.setA v).params = s.params := rfl

@[simp] theorem State.setSp_a (v : Word) : (s.setSp v).a = s.a := rfl
@[simp] theorem State.setSp_f (v : Word) : (s.setSp v).f = s.f := rfl
@[simp] theorem State.setSp_b (v : Word) : (s.setSp v).b = s.b := rfl
@[simp] theorem State.setSp_c (v : Word) : (s.setSp v).c = s.c := rfl
@[simp] theorem State.setSp_d (v : Word) : (s.setSp v).d = s.d := rfl
@[simp] theorem State.setSp_e (v : Word) : (s.setSp v).e = s.e := rfl
@[simp] theorem State.setSp_h (v : Word) : (s.setSp v).h = s.h := rfl
@[simp] theorem State.setSp_l (v : Word) : (s.setSp v).l = s.l := rfl
@[simp] theorem State.setSp_sp (v : Word) : (s.setSp v).sp = v := rfl
@[simp] theorem State.setSp_pc (v : Word) : (s.setSp v).pc = s.pc := rfl
@[simp] theorem State.setSp_ime (v : Word) : (s.setSp v).ime = s.ime := rfl
@[simp] theorem State.setSp_eiPending (v : Word) : (s.setSp v).eiPending = s.eiPending := rfl
@[simp] theorem State.setSp_ie (v : Word) : (s.setSp v).ie = s.ie := rfl
@[simp] theorem State.setSp_iflag (v : Word) : (s.setSp v).iflag = s.iflag := rfl
@[simp] theorem State.setSp_run (v : Word) : (s.setSp v).run = s.run := rfl
@[simp] theorem State.setSp_haltBug (v : Word) : (s.setSp v).haltBug = s.haltBug := rfl
@[simp] theorem State.setSp_locked (v : Word) : (s.setSp v).locked = s.locked := rfl
@[simp] theorem State.setSp_illegalOpcode (v : Word) : (s.setSp v).illegalOpcode = s.illegalOpcode := rfl
@[simp] theorem State.setSp_illegalPc (v : Word) : (s.setSp v).illegalPc = s.illegalPc := rfl
@[simp] theorem State.setSp_mem (v : Word) : (s.setSp v).mem = s.mem := rfl
@[simp] theorem State.setSp_port (v : Word) : (s.setSp v).port = s.port := rfl
@[simp] theorem State.setSp_opcodePc (v : Word) : (s.setSp v).opcodePc = s.opcodePc := rfl
@[simp] theorem State.setSp_cycles (v : Word) : (s.setSp v).cycles = s.cycles := rfl
@[simp] theorem State.setSp_params (v : Word) : (s.setSp v).params = s.params := rfl

@[simp] theorem State.setPc_a (v : Word) : (s.setPc v).a = s.a := rfl
@[simp] theorem State.setPc_f (v : Word) : (s.setPc v).f = s.f := rfl
@[simp] theorem State.setPc_b (v : Word) : (s.setPc v).b = s.b := rfl
@[simp] theorem State.setPc_c (v : Word) : (s.setPc v).c = s.c := rfl
@[simp] theorem State.setPc_d (v : Word) : (s.setPc v).d = s.d := rfl
@[simp] theorem State.setPc_e (v : Word) : (s.setPc v).e = s.e := rfl
@[simp] theorem State.setPc_h (v : Word) : (s.setPc v).h = s.h := rfl
@[simp] theorem State.setPc_l (v : Word) : (s.setPc v).l = s.l := rfl
@[simp] theorem State.setPc_sp (v : Word) : (s.setPc v).sp = s.sp := rfl
@[simp] theorem State.setPc_pc (v : Word) : (s.setPc v).pc = v := rfl
@[simp] theorem State.setPc_ime (v : Word) : (s.setPc v).ime = s.ime := rfl
@[simp] theorem State.setPc_eiPending (v : Word) : (s.setPc v).eiPending = s.eiPending := rfl
@[simp] theorem State.setPc_ie (v : Word) : (s.setPc v).ie = s.ie := rfl
@[simp] theorem State.setPc_iflag (v : Word) : (s.setPc v).iflag = s.iflag := rfl
@[simp] theorem State.setPc_run (v : Word) : (s.setPc v).run = s.run := rfl
@[simp] theorem State.setPc_haltBug (v : Word) : (s.setPc v).haltBug = s.haltBug := rfl
@[simp] theorem State.setPc_locked (v : Word) : (s.setPc v).locked = s.locked := rfl
@[simp] theorem State.setPc_illegalOpcode (v : Word) : (s.setPc v).illegalOpcode = s.illegalOpcode := rfl
@[simp] theorem State.setPc_illegalPc (v : Word) : (s.setPc v).illegalPc = s.illegalPc := rfl
@[simp] theorem State.setPc_mem (v : Word) : (s.setPc v).mem = s.mem := rfl
@[simp] theorem State.setPc_port (v : Word) : (s.setPc v).port = s.port := rfl
@[simp] theorem State.setPc_opcodePc (v : Word) : (s.setPc v).opcodePc = s.opcodePc := rfl
@[simp] theorem State.setPc_cycles (v : Word) : (s.setPc v).cycles = s.cycles := rfl
@[simp] theorem State.setPc_params (v : Word) : (s.setPc v).params = s.params := rfl

@[simp] theorem State.setIme_a (v : Bool) : (s.setIme v).a = s.a := rfl
@[simp] theorem State.setIme_f (v : Bool) : (s.setIme v).f = s.f := rfl
@[simp] theorem State.setIme_b (v : Bool) : (s.setIme v).b = s.b := rfl
@[simp] theorem State.setIme_c (v : Bool) : (s.setIme v).c = s.c := rfl
@[simp] theorem State.setIme_d (v : Bool) : (s.setIme v).d = s.d := rfl
@[simp] theorem State.setIme_e (v : Bool) : (s.setIme v).e = s.e := rfl
@[simp] theorem State.setIme_h (v : Bool) : (s.setIme v).h = s.h := rfl
@[simp] theorem State.setIme_l (v : Bool) : (s.setIme v).l = s.l := rfl
@[simp] theorem State.setIme_sp (v : Bool) : (s.setIme v).sp = s.sp := rfl
@[simp] theorem State.setIme_pc (v : Bool) : (s.setIme v).pc = s.pc := rfl
@[simp] theorem State.setIme_ime (v : Bool) : (s.setIme v).ime = v := rfl
@[simp] theorem State.setIme_eiPending (v : Bool) : (s.setIme v).eiPending = s.eiPending := rfl
@[simp] theorem State.setIme_ie (v : Bool) : (s.setIme v).ie = s.ie := rfl
@[simp] theorem State.setIme_iflag (v : Bool) : (s.setIme v).iflag = s.iflag := rfl
@[simp] theorem State.setIme_run (v : Bool) : (s.setIme v).run = s.run := rfl
@[simp] theorem State.setIme_haltBug (v : Bool) : (s.setIme v).haltBug = s.haltBug := rfl
@[simp] theorem State.setIme_locked (v : Bool) : (s.setIme v).locked = s.locked := rfl
@[simp] theorem State.setIme_illegalOpcode (v : Bool) : (s.setIme v).illegalOpcode = s.illegalOpcode := rfl
@[simp] theorem State.setIme_illegalPc (v : Bool) : (s.setIme v).illegalPc = s.illegalPc := rfl
@[simp] theorem State.setIme_mem (v : Bool) : (s.setIme v).mem = s.mem := rfl
@[simp] theorem State.setIme_port (v : Bool) : (s.setIme v).port = s.port := rfl
@[simp] theorem State.setIme_opcodePc (v : Bool) : (s.setIme v).opcodePc = s.opcodePc := rfl
@[simp] theorem State.setIme_cycles (v : Bool) : (s.setIme v).cycles = s.cycles := rfl
@[simp] theorem State.setIme_params (v : Bool) : (s.setIme v).params = s.params := rfl

@[simp] theorem State.setEiPending_a (v : Bool) : (s.setEiPending v).a = s.a := rfl
@[simp] theorem State.setEiPending_f (v : Bool) : (s.setEiPending v).f = s.f := rfl
@[simp] theorem State.setEiPending_b (v : Bool) : (s.setEiPending v).b = s.b := rfl
@[simp] theorem State.setEiPending_c (v : Bool) : (s.setEiPending v).c = s.c := rfl
@[simp] theorem State.setEiPending_d (v : Bool) : (s.setEiPending v).d = s.d := rfl
@[simp] theorem State.setEiPending_e (v : Bool) : (s.setEiPending v).e = s.e := rfl
@[simp] theorem State.setEiPending_h (v : Bool) : (s.setEiPending v).h = s.h := rfl
@[simp] theorem State.setEiPending_l (v : Bool) : (s.setEiPending v).l = s.l := rfl
@[simp] theorem State.setEiPending_sp (v : Bool) : (s.setEiPending v).sp = s.sp := rfl
@[simp] theorem State.setEiPending_pc (v : Bool) : (s.setEiPending v).pc = s.pc := rfl
@[simp] theorem State.setEiPending_ime (v : Bool) : (s.setEiPending v).ime = s.ime := rfl
@[simp] theorem State.setEiPending_eiPending (v : Bool) : (s.setEiPending v).eiPending = v := rfl
@[simp] theorem State.setEiPending_ie (v : Bool) : (s.setEiPending v).ie = s.ie := rfl
@[simp] theorem State.setEiPending_iflag (v : Bool) : (s.setEiPending v).iflag = s.iflag := rfl
@[simp] theorem State.setEiPending_run (v : Bool) : (s.setEiPending v).run = s.run := rfl
@[simp] theorem State.setEiPending_haltBug (v : Bool) : (s.setEiPending v).haltBug = s.haltBug := rfl
@[simp] theorem State.setEiPending_locked (v : Bool) : (s.setEiPending v).locked = s.locked := rfl
@[simp] theorem State.setEiPending_illegalOpcode (v : Bool) : (s.setEiPending v).illegalOpcode = s.illegalOpcode := rfl
@[simp] theorem State.setEiPending_illegalPc (v : Bool) : (s.setEiPending v).illegalPc = s.illegalPc := rfl
@[simp] theorem State.setEiPending_mem (v : Bool) : (s.setEiPending v).mem = s.mem := rfl
@[simp] theorem State.setEiPending_port (v : Bool) : (s.setEiPending v).port = s.port := rfl
@[simp] theorem State.setEiPending_opcodePc (v : Bool) : (s.setEiPending v).opcodePc = s.opcodePc := rfl
@[simp] theorem State.setEiPending_cycles (v : Bool) : (s.setEiPending v).cycles = s.cycles := rfl
@[simp] theorem State.setEiPending_params (v : Bool) : (s.setEiPending v).params = s.params := rfl

@[simp] theorem State.setRun_a (v : RunState) : (s.setRun v).a = s.a := rfl
@[simp] theorem State.setRun_f (v : RunState) : (s.setRun v).f = s.f := rfl
@[simp] theorem State.setRun_b (v : RunState) : (s.setRun v).b = s.b := rfl
@[simp] theorem State.setRun_c (v : RunState) : (s.setRun v).c = s.c := rfl
@[simp] theorem State.setRun_d (v : RunState) : (s.setRun v).d = s.d := rfl
@[simp] theorem State.setRun_e (v : RunState) : (s.setRun v).e = s.e := rfl
@[simp] theorem State.setRun_h (v : RunState) : (s.setRun v).h = s.h := rfl
@[simp] theorem State.setRun_l (v : RunState) : (s.setRun v).l = s.l := rfl
@[simp] theorem State.setRun_sp (v : RunState) : (s.setRun v).sp = s.sp := rfl
@[simp] theorem State.setRun_pc (v : RunState) : (s.setRun v).pc = s.pc := rfl
@[simp] theorem State.setRun_ime (v : RunState) : (s.setRun v).ime = s.ime := rfl
@[simp] theorem State.setRun_eiPending (v : RunState) : (s.setRun v).eiPending = s.eiPending := rfl
@[simp] theorem State.setRun_ie (v : RunState) : (s.setRun v).ie = s.ie := rfl
@[simp] theorem State.setRun_iflag (v : RunState) : (s.setRun v).iflag = s.iflag := rfl
@[simp] theorem State.setRun_run (v : RunState) : (s.setRun v).run = v := rfl
@[simp] theorem State.setRun_haltBug (v : RunState) : (s.setRun v).haltBug = s.haltBug := rfl
@[simp] theorem State.setRun_locked (v : RunState) : (s.setRun v).locked = s.locked := rfl
@[simp] theorem State.setRun_illegalOpcode (v : RunState) : (s.setRun v).illegalOpcode = s.illegalOpcode := rfl
@[simp] theorem State.setRun_illegalPc (v : RunState) : (s.setRun v).illegalPc = s.illegalPc := rfl
@[simp] theorem State.setRun_mem (v : RunState) : (s.setRun v).mem = s.mem := rfl
@[simp] theorem State.setRun_port (v : RunState) : (s.setRun v).port = s.port := rfl
@[simp] theorem State.setRun_opcodePc (v : RunState) : (s.setRun v).opcodePc = s.opcodePc := rfl
@[simp] theorem State.setRun_cycles (v : RunState) : (s.setRun v).cycles = s.cycles := rfl
@[simp] theorem State.setRun_params (v : RunState) : (s.setRun v).params = s.params := rfl

@[simp] theorem State.setHaltBug_a (v : Bool) : (s.setHaltBug v).a = s.a := rfl
@[simp] theorem State.setHaltBug_f (v : Bool) : (s.setHaltBug v).f = s.f := rfl
@[simp] theorem State.setHaltBug_b (v : Bool) : (s.setHaltBug v).b = s.b := rfl
@[simp] theorem State.setHaltBug_c (v : Bool) : (s.setHaltBug v).c = s.c := rfl
@[simp] theorem State.setHaltBug_d (v : Bool) : (s.setHaltBug v).d = s.d := rfl
@[simp] theorem State.setHaltBug_e (v : Bool) : (s.setHaltBug v).e = s.e := rfl
@[simp] theorem State.setHaltBug_h (v : Bool) : (s.setHaltBug v).h = s.h := rfl
@[simp] theorem State.setHaltBug_l (v : Bool) : (s.setHaltBug v).l = s.l := rfl
@[simp] theorem State.setHaltBug_sp (v : Bool) : (s.setHaltBug v).sp = s.sp := rfl
@[simp] theorem State.setHaltBug_pc (v : Bool) : (s.setHaltBug v).pc = s.pc := rfl
@[simp] theorem State.setHaltBug_ime (v : Bool) : (s.setHaltBug v).ime = s.ime := rfl
@[simp] theorem State.setHaltBug_eiPending (v : Bool) : (s.setHaltBug v).eiPending = s.eiPending := rfl
@[simp] theorem State.setHaltBug_ie (v : Bool) : (s.setHaltBug v).ie = s.ie := rfl
@[simp] theorem State.setHaltBug_iflag (v : Bool) : (s.setHaltBug v).iflag = s.iflag := rfl
@[simp] theorem State.setHaltBug_run (v : Bool) : (s.setHaltBug v).run = s.run := rfl
@[simp] theorem State.setHaltBug_haltBug (v : Bool) : (s.setHaltBug v).haltBug = v := rfl
@[simp] theorem State.setHaltBug_locked (v : Bool) : (s.setHaltBug v).locked = s.locked := rfl
@[simp] theorem State.setHaltBug_illegalOpcode (v : Bool) : (s.setHaltBug v).illegalOpcode = s.illegalOpcode := rfl
@[simp] theorem State.setHaltBug_illegalPc (v : Bool) : (s.setHaltBug v).illegalPc = s.illegalPc := rfl
@[simp] theorem State.setHaltBug_mem (v : Bool) : (s.setHaltBug v).mem = s.mem := rfl
@[simp] theorem State.setHaltBug_port (v : Bool) : (s.setHaltBug v).port = s.port := rfl
@[simp] theorem State.setHaltBug_opcodePc (v : Bool) : (s.setHaltBug v).opcodePc = s.opcodePc := rfl
@[simp] theorem State.setHaltBug_cycles (v : Bool) : (s.setHaltBug v).cycles = s.cycles := rfl
@[simp] theorem State.setHaltBug_params (v : Bool) : (s.setHaltBug v).params = s.params := rfl

@[simp] theorem State.setCycles_a (v : BitVec 32) : (s.setCycles v).a = s.a := rfl
@[simp] theorem State.setCycles_f (v : BitVec 32) : (s.setCycles v).f = s.f := rfl
@[simp] theorem State.setCycles_b (v : BitVec 32) : (s.setCycles v).b = s.b := rfl
@[simp] theorem State.setCycles_c (v : BitVec 32) : (s.setCycles v).c = s.c := rfl
@[simp] theorem State.setCycles_d (v : BitVec 32) : (s.setCycles v).d = s.d := rfl
@[simp] theorem State.setCycles_e (v : BitVec 32) : (s.setCycles v).e = s.e := rfl
@[simp] theorem State.setCycles_h (v : BitVec 32) : (s.setCycles v).h = s.h := rfl
@[simp] theorem State.setCycles_l (v : BitVec 32) : (s.setCycles v).l = s.l := rfl
@[simp] theorem State.setCycles_sp (v : BitVec 32) : (s.setCycles v).sp = s.sp := rfl
@[simp] theorem State.setCycles_pc (v : BitVec 32) : (s.setCycles v).pc = s.pc := rfl
@[simp] theorem State.setCycles_ime (v : BitVec 32) : (s.setCycles v).ime = s.ime := rfl
@[simp] theorem State.setCycles_eiPending (v : BitVec 32) : (s.setCycles v).eiPending = s.eiPending := rfl
@[simp] theorem State.setCycles_ie (v : BitVec 32) : (s.setCycles v).ie = s.ie := rfl
@[simp] theorem State.setCycles_iflag (v : BitVec 32) : (s.setCycles v).iflag = s.iflag := rfl
@[simp] theorem State.setCycles_run (v : BitVec 32) : (s.setCycles v).run = s.run := rfl
@[simp] theorem State.setCycles_haltBug (v : BitVec 32) : (s.setCycles v).haltBug = s.haltBug := rfl
@[simp] theorem State.setCycles_locked (v : BitVec 32) : (s.setCycles v).locked = s.locked := rfl
@[simp] theorem State.setCycles_illegalOpcode (v : BitVec 32) : (s.setCycles v).illegalOpcode = s.illegalOpcode := rfl
@[simp] theorem State.setCycles_illegalPc (v : BitVec 32) : (s.setCycles v).illegalPc = s.illegalPc := rfl
@[simp] theorem State.setCycles_mem (v : BitVec 32) : (s.setCycles v).mem = s.mem := rfl
@[simp] theorem State.setCycles_port (v : BitVec 32) : (s.setCycles v).port = s.port := rfl
@[simp] theorem State.setCycles_opcodePc (v : BitVec 32) : (s.setCycles v).opcodePc = s.opcodePc := rfl
@[simp] theorem State.setCycles_cycles (v : BitVec 32) : (s.setCycles v).cycles = v := rfl
@[simp] theorem State.setCycles_params (v : BitVec 32) : (s.setCycles v).params = s.params := rfl

@[simp] theorem State.setBc_a (v : Word) : (s.setBc v).a = s.a := rfl
@[simp] theorem State.setBc_f (v : Word) : (s.setBc v).f = s.f := rfl
@[simp] theorem State.setBc_b (v : Word) : (s.setBc v).b = hi8 v := rfl
@[simp] theorem State.setBc_c (v : Word) : (s.setBc v).c = lo8 v := rfl
@[simp] theorem State.setBc_d (v : Word) : (s.setBc v).d = s.d := rfl
@[simp] theorem State.setBc_e (v : Word) : (s.setBc v).e = s.e := rfl
@[simp] theorem State.setBc_h (v : Word) : (s.setBc v).h = s.h := rfl
@[simp] theorem State.setBc_l (v : Word) : (s.setBc v).l = s.l := rfl
@[simp] theorem State.setBc_sp (v : Word) : (s.setBc v).sp = s.sp := rfl
@[simp] theorem State.setBc_pc (v : Word) : (s.setBc v).pc = s.pc := rfl
@[simp] theorem State.setBc_ime (v : Word) : (s.setBc v).ime = s.ime := rfl
@[simp] theorem State.setBc_eiPending (v : Word) : (s.setBc v).eiPending = s.eiPending := rfl
@[simp] theorem State.setBc_ie (v : Word) : (s.setBc v).ie = s.ie := rfl
@[simp] theorem State.setBc_iflag (v : Word) : (s.setBc v).iflag = s.iflag := rfl
@[simp] theorem State.setBc_run (v : Word) : (s.setBc v).run = s.run := rfl
@[simp] theorem State.setBc_haltBug (v : Word) : (s.setBc v).haltBug = s.haltBug := rfl
@[simp] theorem State.setBc_locked (v : Word) : (s.setBc v).locked = s.locked := rfl
@[simp] theorem State.setBc_illegalOpcode (v : Word) : (s.setBc v).illegalOpcode = s.illegalOpcode := rfl
@[simp] theorem State.setBc_illegalPc (v : Word) : (s.setBc v).illegalPc = s.illegalPc := rfl
@[simp] theorem State.setBc_mem (v : Word) : (s.setBc v).mem = s.mem := rfl
@[simp] theorem State.setBc_port (v : Word) : (s.setBc v).port = s.port := rfl
@[simp] theorem State.setBc_opcodePc (v : Word) : (s.setBc v).opcodePc = s.opcodePc := rfl
@[simp] theorem State.setBc_cycles (v : Word) : (s.setBc v).cycles = s.cycles := rfl
@[simp] theorem State.setBc_params (v : Word) : (s.setBc v).params = s.params := rfl

@[simp] theorem State.setDe_a (v : Word) : (s.setDe v).a = s.a := rfl
@[simp] theorem State.setDe_f (v : Word) : (s.setDe v).f = s.f := rfl
@[simp] theorem State.setDe_b (v : Word) : (s.setDe v).b = s.b := rfl
@[simp] theorem State.setDe_c (v : Word) : (s.setDe v).c = s.c := rfl
@[simp] theorem State.setDe_d (v : Word) : (s.setDe v).d = hi8 v := rfl
@[simp] theorem State.setDe_e (v : Word) : (s.setDe v).e = lo8 v := rfl
@[simp] theorem State.setDe_h (v : Word) : (s.setDe v).h = s.h := rfl
@[simp] theorem State.setDe_l (v : Word) : (s.setDe v).l = s.l := rfl
@[simp] theorem State.setDe_sp (v : Word) : (s.setDe v).sp = s.sp := rfl
@[simp] theorem State.setDe_pc (v : Word) : (s.setDe v).pc = s.pc := rfl
@[simp] theorem State.setDe_ime (v : Word) : (s.setDe v).ime = s.ime := rfl
@[simp] theorem State.setDe_eiPending (v : Word) : (s.setDe v).eiPending = s.eiPending := rfl
@[simp] theorem State.setDe_ie (v : Word) : (s.setDe v).ie = s.ie := rfl
@[simp] theorem State.setDe_iflag (v : Word) : (s.setDe v).iflag = s.iflag := rfl
@[simp] theorem State.setDe_run (v : Word) : (s.setDe v).run = s.run := rfl
@[simp] theorem State.setDe_haltBug (v : Word) : (s.setDe v).haltBug = s.haltBug := rfl
@[simp] theorem State.setDe_locked (v : Word) : (s.setDe v).locked = s.locked := rfl
@[simp] theorem State.setDe_illegalOpcode (v : Word) : (s.setDe v).illegalOpcode = s.illegalOpcode := rfl
@[simp] theorem State.setDe_illegalPc (v : Word) : (s.setDe v).illegalPc = s.illegalPc := rfl
@[simp] theorem State.setDe_mem (v : Word) : (s.setDe v).mem = s.mem := rfl
@[simp] theorem State.setDe_port (v : Word) : (s.setDe v).port = s.port := rfl
@[simp] theorem State.setDe_opcodePc (v : Word) : (s.setDe v).opcodePc = s.opcodePc := rfl
@[simp] theorem State.setDe_cycles (v : Word) : (s.setDe v).cycles = s.cycles := rfl
@[simp] theorem State.setDe_params (v : Word) : (s.setDe v).params = s.params := rfl

@[simp] theorem State.setHl_a (v : Word) : (s.setHl v).a = s.a := rfl
@[simp] theorem State.setHl_f (v : Word) : (s.setHl v).f = s.f := rfl
@[simp] theorem State.setHl_b (v : Word) : (s.setHl v).b = s.b := rfl
@[simp] theorem State.setHl_c (v : Word) : (s.setHl v).c = s.c := rfl
@[simp] theorem State.setHl_d (v : Word) : (s.setHl v).d = s.d := rfl
@[simp] theorem State.setHl_e (v : Word) : (s.setHl v).e = s.e := rfl
@[simp] theorem State.setHl_h (v : Word) : (s.setHl v).h = hi8 v := rfl
@[simp] theorem State.setHl_l (v : Word) : (s.setHl v).l = lo8 v := rfl
@[simp] theorem State.setHl_sp (v : Word) : (s.setHl v).sp = s.sp := rfl
@[simp] theorem State.setHl_pc (v : Word) : (s.setHl v).pc = s.pc := rfl
@[simp] theorem State.setHl_ime (v : Word) : (s.setHl v).ime = s.ime := rfl
@[simp] theorem State.setHl_eiPending (v : Word) : (s.setHl v).eiPending = s.eiPending := rfl
@[simp] theorem State.setHl_ie (v : Word) : (s.setHl v).ie = s.ie := rfl
@[simp] theorem State.setHl_iflag (v : Word) : (s.setHl v).iflag = s.iflag := rfl
@[simp] theorem State.setHl_run (v : Word) : (s.setHl v).run = s.run := rfl
@[simp] theorem State.setHl_haltBug (v : Word) : (s.setHl v).haltBug = s.haltBug := rfl
@[simp] theorem State.setHl_locked (v : Word) : (s.setHl v).locked = s.locked := rfl
@[simp] theorem State.setHl_illegalOpcode (v : Word) : (s.setHl v).illegalOpcode = s.illegalOpcode := rfl
@[simp] theorem State.setHl_illegalPc (v : Word) : (s.setHl v).illegalPc = s.illegalPc := rfl
@[simp] theorem State.setHl_mem (v : Word) : (s.setHl v).mem = s.mem := rfl
@[simp] theorem State.setHl_port (v : Word) : (s.setHl v).port = s.port := rfl
@[simp] theorem State.setHl_opcodePc (v : Word) : (s.setHl v).opcodePc = s.opcodePc := rfl
@[simp] theorem State.setHl_cycles (v : Word) : (s.setHl v).cycles = s.cycles := rfl
@[simp] theorem State.setHl_params (v : Word) : (s.setHl v).params = s.params := rfl

@[simp] theorem State.setAf_a (v : Word) : (s.setAf v).a = hi8 v := rfl
@[simp] theorem State.setAf_f (v : Word) : (s.setAf v).f = lo8 v &&& 0xF0#8 := rfl
@[simp] theorem State.setAf_b (v : Word) : (s.setAf v).b = s.b := rfl
@[simp] theorem State.setAf_c (v : Word) : (s.setAf v).c = s.c := rfl
@[simp] theorem State.setAf_d (v : Word) : (s.setAf v).d = s.d := rfl
@[simp] theorem State.setAf_e (v : Word) : (s.setAf v).e = s.e := rfl
@[simp] theorem State.setAf_h (v : Word) : (s.setAf v).h = s.h := rfl
@[simp] theorem State.setAf_l (v : Word) : (s.setAf v).l = s.l := rfl
@[simp] theorem State.setAf_sp (v : Word) : (s.setAf v).sp = s.sp := rfl
@[simp] theorem State.setAf_pc (v : Word) : (s.setAf v).pc = s.pc := rfl
@[simp] theorem State.setAf_ime (v : Word) : (s.setAf v).ime = s.ime := rfl
@[simp] theorem State.setAf_eiPending (v : Word) : (s.setAf v).eiPending = s.eiPending := rfl
@[simp] theorem State.setAf_ie (v : Word) : (s.setAf v).ie = s.ie := rfl
@[simp] theorem State.setAf_iflag (v : Word) : (s.setAf v).iflag = s.iflag := rfl
@[simp] theorem State.setAf_run (v : Word) : (s.setAf v).run = s.run := rfl
@[simp] theorem State.setAf_haltBug (v : Word) : (s.setAf v).haltBug = s.haltBug := rfl
@[simp] theorem State.setAf_locked (v : Word) : (s.setAf v).locked = s.locked := rfl
@[simp] theorem State.setAf_illegalOpcode (v : Word) : (s.setAf v).illegalOpcode = s.illegalOpcode := rfl
@[simp] theorem State.setAf_illegalPc (v : Word) : (s.setAf v).illegalPc = s.illegalPc := rfl
@[simp] theorem State.setAf_mem (v : Word) : (s.setAf v).mem = s.mem := rfl
@[simp] theorem State.setAf_port (v : Word) : (s.setAf v).port = s.port := rfl
@[simp] theorem State.setAf_opcodePc (v : Word) : (s.setAf v).opcodePc = s.opcodePc := rfl
@[simp] theorem State.setAf_cycles (v : Word) : (s.setAf v).cycles = s.cycles := rfl
@[simp] theorem State.setAf_params (v : Word) : (s.setAf v).params = s.params := rfl

@[simp] theorem State.setFlags_a (v : Flags) : (s.setFlags v).a = s.a := rfl
@[simp] theorem State.setFlags_f (v : Flags) : (s.setFlags v).f = v.toByte &&& 0xF0#8 := rfl
@[simp] theorem State.setFlags_b (v : Flags) : (s.setFlags v).b = s.b := rfl
@[simp] theorem State.setFlags_c (v : Flags) : (s.setFlags v).c = s.c := rfl
@[simp] theorem State.setFlags_d (v : Flags) : (s.setFlags v).d = s.d := rfl
@[simp] theorem State.setFlags_e (v : Flags) : (s.setFlags v).e = s.e := rfl
@[simp] theorem State.setFlags_h (v : Flags) : (s.setFlags v).h = s.h := rfl
@[simp] theorem State.setFlags_l (v : Flags) : (s.setFlags v).l = s.l := rfl
@[simp] theorem State.setFlags_sp (v : Flags) : (s.setFlags v).sp = s.sp := rfl
@[simp] theorem State.setFlags_pc (v : Flags) : (s.setFlags v).pc = s.pc := rfl
@[simp] theorem State.setFlags_ime (v : Flags) : (s.setFlags v).ime = s.ime := rfl
@[simp] theorem State.setFlags_eiPending (v : Flags) : (s.setFlags v).eiPending = s.eiPending := rfl
@[simp] theorem State.setFlags_ie (v : Flags) : (s.setFlags v).ie = s.ie := rfl
@[simp] theorem State.setFlags_iflag (v : Flags) : (s.setFlags v).iflag = s.iflag := rfl
@[simp] theorem State.setFlags_run (v : Flags) : (s.setFlags v).run = s.run := rfl
@[simp] theorem State.setFlags_haltBug (v : Flags) : (s.setFlags v).haltBug = s.haltBug := rfl
@[simp] theorem State.setFlags_locked (v : Flags) : (s.setFlags v).locked = s.locked := rfl
@[simp] theorem State.setFlags_illegalOpcode (v : Flags) : (s.setFlags v).illegalOpcode = s.illegalOpcode := rfl
@[simp] theorem State.setFlags_illegalPc (v : Flags) : (s.setFlags v).illegalPc = s.illegalPc := rfl
@[simp] theorem State.setFlags_mem (v : Flags) : (s.setFlags v).mem = s.mem := rfl
@[simp] theorem State.setFlags_port (v : Flags) : (s.setFlags v).port = s.port := rfl
@[simp] theorem State.setFlags_opcodePc (v : Flags) : (s.setFlags v).opcodePc = s.opcodePc := rfl
@[simp] theorem State.setFlags_cycles (v : Flags) : (s.setFlags v).cycles = s.cycles := rfl
@[simp] theorem State.setFlags_params (v : Flags) : (s.setFlags v).params = s.params := rfl

end Sys2Proof.Machine
end

