-- ==== Sys2Proof/Laws/Bus.lean ====
section
/-! SUPPORT. What each shared operation of Machine/Ops.lean and Machine/Operands.lean can do: bus accesses, the
stack, fetching, operands, interrupts. Cited instead of unfolding them. -/

namespace Sys2Proof.Machine

variable (s : State)

/-! ## Regions (R61) -/

theorem ramAddress_of_region {a : Word} {n : Nat} (h : regionOf a = .ram n) : ramAddress n = true := by
  have := a.isLt
  simp only [regionOf] at h
  simp only [ramAddress]
  split_ifs at h <;> simp_all
  omega

theorem externalAddress_of_region {a : Word} (h : regionOf a = .external) : externalAddress a.toNat = true := by
  simp only [regionOf] at h
  simp only [externalAddress]
  split_ifs at h <;> simp_all

/-! ## Bus reads (R62, R69) -/

/-- A read of an address the block owns has no effect (R69). -/
theorem busRead_of_peek {a : Word} {v : Byte} (h : peek a s = some v) : busRead a s = (v, s) := by
  simp [busRead, h]

/-- A read of an external address is one port access (R62). -/
theorem busRead_of_external {a : Word} (h : regionOf a = .external) : busRead a s = extRead a s := by
  simp [busRead, peek, h]

/-- A read changes nothing but the port's history. -/
theorem busRead_state (a : Word) : (busRead a s).2 = { s with port := (busRead a s).2.port } := by
  unfold busRead extRead
  split <;> rfl

@[simp] theorem busRead_a (x : Word) : (busRead x s |>.2).a = s.a := by rw [busRead_state]
@[simp] theorem busRead_f (x : Word) : (busRead x s |>.2).f = s.f := by rw [busRead_state]
@[simp] theorem busRead_b (x : Word) : (busRead x s |>.2).b = s.b := by rw [busRead_state]
@[simp] theorem busRead_c (x : Word) : (busRead x s |>.2).c = s.c := by rw [busRead_state]
@[simp] theorem busRead_d (x : Word) : (busRead x s |>.2).d = s.d := by rw [busRead_state]
@[simp] theorem busRead_e (x : Word) : (busRead x s |>.2).e = s.e := by rw [busRead_state]
@[simp] theorem busRead_h (x : Word) : (busRead x s |>.2).h = s.h := by rw [busRead_state]
@[simp] theorem busRead_l (x : Word) : (busRead x s |>.2).l = s.l := by rw [busRead_state]
@[simp] theorem busRead_sp (x : Word) : (busRead x s |>.2).sp = s.sp := by rw [busRead_state]
@[simp] theorem busRead_pc (x : Word) : (busRead x s |>.2).pc = s.pc := by rw [busRead_state]
@[simp] theorem busRead_ime (x : Word) : (busRead x s |>.2).ime = s.ime := by rw [busRead_state]
@[simp] theorem busRead_eiPending (x : Word) : (busRead x s |>.2).eiPending = s.eiPending := by rw [busRead_state]
@[simp] theorem busRead_ie (x : Word) : (busRead x s |>.2).ie = s.ie := by rw [busRead_state]
@[simp] theorem busRead_iflag (x : Word) : (busRead x s |>.2).iflag = s.iflag := by rw [busRead_state]
@[simp] theorem busRead_run (x : Word) : (busRead x s |>.2).run = s.run := by rw [busRead_state]
@[simp] theorem busRead_haltBug (x : Word) : (busRead x s |>.2).haltBug = s.haltBug := by rw [busRead_state]
@[simp] theorem busRead_locked (x : Word) : (busRead x s |>.2).locked = s.locked := by rw [busRead_state]
@[simp] theorem busRead_illegalOpcode (x : Word) : (busRead x s |>.2).illegalOpcode = s.illegalOpcode := by rw [busRead_state]
@[simp] theorem busRead_illegalPc (x : Word) : (busRead x s |>.2).illegalPc = s.illegalPc := by rw [busRead_state]
@[simp] theorem busRead_mem (x : Word) : (busRead x s |>.2).mem = s.mem := by rw [busRead_state]
@[simp] theorem busRead_opcodePc (x : Word) : (busRead x s |>.2).opcodePc = s.opcodePc := by rw [busRead_state]
@[simp] theorem busRead_cycles (x : Word) : (busRead x s |>.2).cycles = s.cycles := by rw [busRead_state]
@[simp] theorem busRead_params (x : Word) : (busRead x s |>.2).params = s.params := by rw [busRead_state]

/-! ## Bus writes (R61) -/

/-- A write changes nothing but memory, IF, IE and the port's history. -/
theorem busWrite_state (a : Word) (v : Byte) :
    busWrite a v s = { s with
      mem := (busWrite a v s).mem, port := (busWrite a v s).port
      ie := (busWrite a v s).ie, iflag := (busWrite a v s).iflag } := by
  unfold busWrite extWrite
  split <;> rfl

@[simp] theorem busWrite_a (x : Word) (v : Byte) : (busWrite x v s).a = s.a := by rw [busWrite_state]
@[simp] theorem busWrite_f (x : Word) (v : Byte) : (busWrite x v s).f = s.f := by rw [busWrite_state]
@[simp] theorem busWrite_b (x : Word) (v : Byte) : (busWrite x v s).b = s.b := by rw [busWrite_state]
@[simp] theorem busWrite_c (x : Word) (v : Byte) : (busWrite x v s).c = s.c := by rw [busWrite_state]
@[simp] theorem busWrite_d (x : Word) (v : Byte) : (busWrite x v s).d = s.d := by rw [busWrite_state]
@[simp] theorem busWrite_e (x : Word) (v : Byte) : (busWrite x v s).e = s.e := by rw [busWrite_state]
@[simp] theorem busWrite_h (x : Word) (v : Byte) : (busWrite x v s).h = s.h := by rw [busWrite_state]
@[simp] theorem busWrite_l (x : Word) (v : Byte) : (busWrite x v s).l = s.l := by rw [busWrite_state]
@[simp] theorem busWrite_sp (x : Word) (v : Byte) : (busWrite x v s).sp = s.sp := by rw [busWrite_state]
@[simp] theorem busWrite_pc (x : Word) (v : Byte) : (busWrite x v s).pc = s.pc := by rw [busWrite_state]
@[simp] theorem busWrite_ime (x : Word) (v : Byte) : (busWrite x v s).ime = s.ime := by rw [busWrite_state]
@[simp] theorem busWrite_eiPending (x : Word) (v : Byte) : (busWrite x v s).eiPending = s.eiPending := by rw [busWrite_state]
@[simp] theorem busWrite_run (x : Word) (v : Byte) : (busWrite x v s).run = s.run := by rw [busWrite_state]
@[simp] theorem busWrite_haltBug (x : Word) (v : Byte) : (busWrite x v s).haltBug = s.haltBug := by rw [busWrite_state]
@[simp] theorem busWrite_locked (x : Word) (v : Byte) : (busWrite x v s).locked = s.locked := by rw [busWrite_state]
@[simp] theorem busWrite_illegalOpcode (x : Word) (v : Byte) : (busWrite x v s).illegalOpcode = s.illegalOpcode := by rw [busWrite_state]
@[simp] theorem busWrite_illegalPc (x : Word) (v : Byte) : (busWrite x v s).illegalPc = s.illegalPc := by rw [busWrite_state]
@[simp] theorem busWrite_opcodePc (x : Word) (v : Byte) : (busWrite x v s).opcodePc = s.opcodePc := by rw [busWrite_state]
@[simp] theorem busWrite_cycles (x : Word) (v : Byte) : (busWrite x v s).cycles = s.cycles := by rw [busWrite_state]
@[simp] theorem busWrite_params (x : Word) (v : Byte) : (busWrite x v s).params = s.params := by rw [busWrite_state]

/-- Every write keeps memory's canonical form. -/
theorem busWrite_wf (a : Word) (v : Byte) (h : Memory.wf s.params.ramFill s.mem) : Memory.wf s.params.ramFill (busWrite a v s).mem := by
  unfold busWrite extWrite
  split
  · simp only
    split
    · exact h
    · exact Memory.wf_remove h
  · rename_i hr
    exact Memory.wf_store h (ramAddress_of_region hr)
  · exact h
  · exact h
  · exact h

/-- A write of a RAM address is read back through every alias of its cell (R63, R72). -/
theorem peek_busWrite_ram {a a' : Word} {n : Nat} (v : Byte) (h : regionOf a = .ram n)
    (h' : regionOf a' = .ram n) : peek a' (busWrite a v s) = some v := by
  simp [peek, busWrite, h, h', Memory.ram_store_self (ramAddress_of_region h)]

/-- A write leaves every other location the block owns alone (R72). -/
theorem peek_busWrite_other {a a' : Word} (v : Byte) (h : regionOf a' ≠ regionOf a) :
    peek a' (busWrite a v s) = peek a' s := by
  unfold peek busWrite extWrite State.ifRead
  cases ha' : regionOf a' <;> cases ha : regionOf a <;> simp_all
  case ram.external n =>
    have hn : n ≠ a.toNat := by
      intro e
      have h1 := ramAddress_of_region ha'
      have h2 := externalAddress_of_region ha
      simp only [ramAddress, externalAddress] at h1 h2
      simp at h1 h2
      omega
    split
    · rfl
    · simp [Memory.ram, Memory.find_remove_ne hn]
  case ram.ram n k => exact Memory.ram_store_ne h

/-! ## The stack (R14) -/

@[simp] theorem push16_a (v : Word) : (push16 v s).a = s.a := by simp [push16]
@[simp] theorem push16_f (v : Word) : (push16 v s).f = s.f := by simp [push16]
@[simp] theorem push16_b (v : Word) : (push16 v s).b = s.b := by simp [push16]
@[simp] theorem push16_c (v : Word) : (push16 v s).c = s.c := by simp [push16]
@[simp] theorem push16_d (v : Word) : (push16 v s).d = s.d := by simp [push16]
@[simp] theorem push16_e (v : Word) : (push16 v s).e = s.e := by simp [push16]
@[simp] theorem push16_h (v : Word) : (push16 v s).h = s.h := by simp [push16]
@[simp] theorem push16_l (v : Word) : (push16 v s).l = s.l := by simp [push16]
@[simp] theorem push16_pc (v : Word) : (push16 v s).pc = s.pc := by simp [push16]
@[simp] theorem push16_ime (v : Word) : (push16 v s).ime = s.ime := by simp [push16]
@[simp] theorem push16_eiPending (v : Word) : (push16 v s).eiPending = s.eiPending := by simp [push16]
@[simp] theorem push16_run (v : Word) : (push16 v s).run = s.run := by simp [push16]
@[simp] theorem push16_haltBug (v : Word) : (push16 v s).haltBug = s.haltBug := by simp [push16]
@[simp] theorem push16_locked (v : Word) : (push16 v s).locked = s.locked := by simp [push16]
@[simp] theorem push16_illegalOpcode (v : Word) : (push16 v s).illegalOpcode = s.illegalOpcode := by simp [push16]
@[simp] theorem push16_illegalPc (v : Word) : (push16 v s).illegalPc = s.illegalPc := by simp [push16]
@[simp] theorem push16_opcodePc (v : Word) : (push16 v s).opcodePc = s.opcodePc := by simp [push16]
@[simp] theorem push16_cycles (v : Word) : (push16 v s).cycles = s.cycles := by simp [push16]
@[simp] theorem push16_params (v : Word) : (push16 v s).params = s.params := by simp [push16]

@[simp] theorem push16_sp (v : Word) : (push16 v s).sp = s.sp - 2 := by
  simp [push16, BitVec.sub_sub]

theorem push16_wf (v : Word) (h : Memory.wf s.params.ramFill s.mem) : Memory.wf s.params.ramFill (push16 v s).mem := by
  have h1 := busWrite_wf (s.setSp (s.sp - 1)) (s.sp - 1) (hi8 v) h
  have h2 (x : Word) := busWrite_wf ((busWrite (s.sp - 1) (hi8 v) (s.setSp (s.sp - 1))).setSp x) x (lo8 v)
    (by simpa using h1)
  simpa [push16] using h2 _

@[simp] theorem pop16_a  : (pop16 s |>.2).a = s.a := by simp [pop16]
@[simp] theorem pop16_f  : (pop16 s |>.2).f = s.f := by simp [pop16]
@[simp] theorem pop16_b  : (pop16 s |>.2).b = s.b := by simp [pop16]
@[simp] theorem pop16_c  : (pop16 s |>.2).c = s.c := by simp [pop16]
@[simp] theorem pop16_d  : (pop16 s |>.2).d = s.d := by simp [pop16]
@[simp] theorem pop16_e  : (pop16 s |>.2).e = s.e := by simp [pop16]
@[simp] theorem pop16_h  : (pop16 s |>.2).h = s.h := by simp [pop16]
@[simp] theorem pop16_l  : (pop16 s |>.2).l = s.l := by simp [pop16]
@[simp] theorem pop16_pc  : (pop16 s |>.2).pc = s.pc := by simp [pop16]
@[simp] theorem pop16_ime  : (pop16 s |>.2).ime = s.ime := by simp [pop16]
@[simp] theorem pop16_eiPending  : (pop16 s |>.2).eiPending = s.eiPending := by simp [pop16]
@[simp] theorem pop16_ie  : (pop16 s |>.2).ie = s.ie := by simp [pop16]
@[simp] theorem pop16_iflag  : (pop16 s |>.2).iflag = s.iflag := by simp [pop16]
@[simp] theorem pop16_run  : (pop16 s |>.2).run = s.run := by simp [pop16]
@[simp] theorem pop16_haltBug  : (pop16 s |>.2).haltBug = s.haltBug := by simp [pop16]
@[simp] theorem pop16_locked  : (pop16 s |>.2).locked = s.locked := by simp [pop16]
@[simp] theorem pop16_illegalOpcode  : (pop16 s |>.2).illegalOpcode = s.illegalOpcode := by simp [pop16]
@[simp] theorem pop16_illegalPc  : (pop16 s |>.2).illegalPc = s.illegalPc := by simp [pop16]
@[simp] theorem pop16_mem  : (pop16 s |>.2).mem = s.mem := by simp [pop16]
@[simp] theorem pop16_opcodePc  : (pop16 s |>.2).opcodePc = s.opcodePc := by simp [pop16]
@[simp] theorem pop16_cycles  : (pop16 s |>.2).cycles = s.cycles := by simp [pop16]
@[simp] theorem pop16_params  : (pop16 s |>.2).params = s.params := by simp [pop16]

@[simp] theorem pop16_sp : (pop16 s).2.sp = s.sp + 2 := by
  simp [pop16, BitVec.add_assoc]

/-! ## Fetching (R13, R101, R102) -/

@[simp] theorem fetch8_a  : (fetch8 s |>.2).a = s.a := by simp [fetch8]
@[simp] theorem fetch8_f  : (fetch8 s |>.2).f = s.f := by simp [fetch8]
@[simp] theorem fetch8_b  : (fetch8 s |>.2).b = s.b := by simp [fetch8]
@[simp] theorem fetch8_c  : (fetch8 s |>.2).c = s.c := by simp [fetch8]
@[simp] theorem fetch8_d  : (fetch8 s |>.2).d = s.d := by simp [fetch8]
@[simp] theorem fetch8_e  : (fetch8 s |>.2).e = s.e := by simp [fetch8]
@[simp] theorem fetch8_h  : (fetch8 s |>.2).h = s.h := by simp [fetch8]
@[simp] theorem fetch8_l  : (fetch8 s |>.2).l = s.l := by simp [fetch8]
@[simp] theorem fetch8_sp  : (fetch8 s |>.2).sp = s.sp := by simp [fetch8]
@[simp] theorem fetch8_ime  : (fetch8 s |>.2).ime = s.ime := by simp [fetch8]
@[simp] theorem fetch8_eiPending  : (fetch8 s |>.2).eiPending = s.eiPending := by simp [fetch8]
@[simp] theorem fetch8_ie  : (fetch8 s |>.2).ie = s.ie := by simp [fetch8]
@[simp] theorem fetch8_iflag  : (fetch8 s |>.2).iflag = s.iflag := by simp [fetch8]
@[simp] theorem fetch8_run  : (fetch8 s |>.2).run = s.run := by simp [fetch8]
@[simp] theorem fetch8_haltBug  : (fetch8 s |>.2).haltBug = s.haltBug := by simp [fetch8]
@[simp] theorem fetch8_locked  : (fetch8 s |>.2).locked = s.locked := by simp [fetch8]
@[simp] theorem fetch8_illegalOpcode  : (fetch8 s |>.2).illegalOpcode = s.illegalOpcode := by simp [fetch8]
@[simp] theorem fetch8_illegalPc  : (fetch8 s |>.2).illegalPc = s.illegalPc := by simp [fetch8]
@[simp] theorem fetch8_mem  : (fetch8 s |>.2).mem = s.mem := by simp [fetch8]
@[simp] theorem fetch8_opcodePc  : (fetch8 s |>.2).opcodePc = s.opcodePc := by simp [fetch8]
@[simp] theorem fetch8_cycles  : (fetch8 s |>.2).cycles = s.cycles := by simp [fetch8]
@[simp] theorem fetch8_params  : (fetch8 s |>.2).params = s.params := by simp [fetch8]

@[simp] theorem fetch8_pc : (fetch8 s).2.pc = s.pc + 1 := by simp [fetch8]

@[simp] theorem fetchOpcode_haltBug : (fetchOpcode s).2.haltBug = false := by
  unfold fetchOpcode
  by_cases h : s.haltBug <;> simp [h]

@[simp] theorem fetchOpcode_opcodePc : (fetchOpcode s).2.opcodePc = s.pc := by
  unfold fetchOpcode
  by_cases h : s.haltBug <;> simp [h]

@[simp] theorem fetchOpcode_a  : (fetchOpcode s |>.2).a = s.a := by unfold fetchOpcode; split <;> simp
@[simp] theorem fetchOpcode_f  : (fetchOpcode s |>.2).f = s.f := by unfold fetchOpcode; split <;> simp
@[simp] theorem fetchOpcode_b  : (fetchOpcode s |>.2).b = s.b := by unfold fetchOpcode; split <;> simp
@[simp] theorem fetchOpcode_c  : (fetchOpcode s |>.2).c = s.c := by unfold fetchOpcode; split <;> simp
@[simp] theorem fetchOpcode_d  : (fetchOpcode s |>.2).d = s.d := by unfold fetchOpcode; split <;> simp
@[simp] theorem fetchOpcode_e  : (fetchOpcode s |>.2).e = s.e := by unfold fetchOpcode; split <;> simp
@[simp] theorem fetchOpcode_h  : (fetchOpcode s |>.2).h = s.h := by unfold fetchOpcode; split <;> simp
@[simp] theorem fetchOpcode_l  : (fetchOpcode s |>.2).l = s.l := by unfold fetchOpcode; split <;> simp
@[simp] theorem fetchOpcode_sp  : (fetchOpcode s |>.2).sp = s.sp := by unfold fetchOpcode; split <;> simp
@[simp] theorem fetchOpcode_ime  : (fetchOpcode s |>.2).ime = s.ime := by unfold fetchOpcode; split <;> simp
@[simp] theorem fetchOpcode_eiPending  : (fetchOpcode s |>.2).eiPending = s.eiPending := by unfold fetchOpcode; split <;> simp
@[simp] theorem fetchOpcode_ie  : (fetchOpcode s |>.2).ie = s.ie := by unfold fetchOpcode; split <;> simp
@[simp] theorem fetchOpcode_iflag  : (fetchOpcode s |>.2).iflag = s.iflag := by unfold fetchOpcode; split <;> simp
@[simp] theorem fetchOpcode_run  : (fetchOpcode s |>.2).run = s.run := by unfold fetchOpcode; split <;> simp
@[simp] theorem fetchOpcode_locked  : (fetchOpcode s |>.2).locked = s.locked := by unfold fetchOpcode; split <;> simp
@[simp] theorem fetchOpcode_illegalOpcode  : (fetchOpcode s |>.2).illegalOpcode = s.illegalOpcode := by unfold fetchOpcode; split <;> simp
@[simp] theorem fetchOpcode_illegalPc  : (fetchOpcode s |>.2).illegalPc = s.illegalPc := by unfold fetchOpcode; split <;> simp
@[simp] theorem fetchOpcode_mem  : (fetchOpcode s |>.2).mem = s.mem := by unfold fetchOpcode; split <;> simp
@[simp] theorem fetchOpcode_cycles  : (fetchOpcode s |>.2).cycles = s.cycles := by unfold fetchOpcode; split <;> simp
@[simp] theorem fetchOpcode_params  : (fetchOpcode s |>.2).params = s.params := by unfold fetchOpcode; split <;> simp

/-- The state after a fetch: one, two or three bytes further on (R114). -/
theorem fetchInstr_state :
    (fetchInstr s).state = (fetchOpcode s).2 ∨ (fetchInstr s).state = (fetch8 (fetchOpcode s).2).2 ∨
      (fetchInstr s).state = (fetch8 (fetch8 (fetchOpcode s).2).2).2 := by
  unfold fetchInstr
  dsimp only
  split <;> simp

/-- After a fetch the HALT bug is spent (R101). -/
@[simp] theorem fetchInstr_haltBug : (fetchInstr s).state.haltBug = false := by
  rcases fetchInstr_state s with h | h | h <;> simp [h]

/-- A fetch keeps the opcode's address for `raise IllegalOpcode` (R102). -/
@[simp] theorem fetchInstr_opcodePc : (fetchInstr s).state.opcodePc = s.pc := by
  rcases fetchInstr_state s with h | h | h <;> simp [h]

@[simp] theorem fetchInstr_a  : (fetchInstr s |>.state).a = s.a := by rcases fetchInstr_state s with h | h | h <;> simp [h]
@[simp] theorem fetchInstr_f  : (fetchInstr s |>.state).f = s.f := by rcases fetchInstr_state s with h | h | h <;> simp [h]
@[simp] theorem fetchInstr_b  : (fetchInstr s |>.state).b = s.b := by rcases fetchInstr_state s with h | h | h <;> simp [h]
@[simp] theorem fetchInstr_c  : (fetchInstr s |>.state).c = s.c := by rcases fetchInstr_state s with h | h | h <;> simp [h]
@[simp] theorem fetchInstr_d  : (fetchInstr s |>.state).d = s.d := by rcases fetchInstr_state s with h | h | h <;> simp [h]
@[simp] theorem fetchInstr_e  : (fetchInstr s |>.state).e = s.e := by rcases fetchInstr_state s with h | h | h <;> simp [h]
@[simp] theorem fetchInstr_h  : (fetchInstr s |>.state).h = s.h := by rcases fetchInstr_state s with h | h | h <;> simp [h]
@[simp] theorem fetchInstr_l  : (fetchInstr s |>.state).l = s.l := by rcases fetchInstr_state s with h | h | h <;> simp [h]
@[simp] theorem fetchInstr_sp  : (fetchInstr s |>.state).sp = s.sp := by rcases fetchInstr_state s with h | h | h <;> simp [h]
@[simp] theorem fetchInstr_ime  : (fetchInstr s |>.state).ime = s.ime := by rcases fetchInstr_state s with h | h | h <;> simp [h]
@[simp] theorem fetchInstr_eiPending  : (fetchInstr s |>.state).eiPending = s.eiPending := by rcases fetchInstr_state s with h | h | h <;> simp [h]
@[simp] theorem fetchInstr_ie  : (fetchInstr s |>.state).ie = s.ie := by rcases fetchInstr_state s with h | h | h <;> simp [h]
@[simp] theorem fetchInstr_iflag  : (fetchInstr s |>.state).iflag = s.iflag := by rcases fetchInstr_state s with h | h | h <;> simp [h]
@[simp] theorem fetchInstr_run  : (fetchInstr s |>.state).run = s.run := by rcases fetchInstr_state s with h | h | h <;> simp [h]
@[simp] theorem fetchInstr_locked  : (fetchInstr s |>.state).locked = s.locked := by rcases fetchInstr_state s with h | h | h <;> simp [h]
@[simp] theorem fetchInstr_illegalOpcode  : (fetchInstr s |>.state).illegalOpcode = s.illegalOpcode := by rcases fetchInstr_state s with h | h | h <;> simp [h]
@[simp] theorem fetchInstr_illegalPc  : (fetchInstr s |>.state).illegalPc = s.illegalPc := by rcases fetchInstr_state s with h | h | h <;> simp [h]
@[simp] theorem fetchInstr_mem  : (fetchInstr s |>.state).mem = s.mem := by rcases fetchInstr_state s with h | h | h <;> simp [h]
@[simp] theorem fetchInstr_cycles  : (fetchInstr s |>.state).cycles = s.cycles := by rcases fetchInstr_state s with h | h | h <;> simp [h]
@[simp] theorem fetchInstr_params  : (fetchInstr s |>.state).params = s.params := by rcases fetchInstr_state s with h | h | h <;> simp [h]

/-- What a fetch gives does not depend on `ei_pending`. -/
theorem fetchInstr_setEiPending (v : Bool) :
    fetchInstr (s.setEiPending v) =
      ⟨(fetchInstr s).op, (fetchInstr s).instr, (fetchInstr s).state.setEiPending v⟩ := by
  have hb (a : Word) (t : State) :
      busRead a (t.setEiPending v) = ((busRead a t).1, (busRead a t).2.setEiPending v) := by
    unfold busRead peek extRead
    cases regionOf a <;> rfl
  have ho : fetchOpcode (s.setEiPending v) = ((fetchOpcode s).1, (fetchOpcode s).2.setEiPending v) := by
    unfold fetchOpcode
    simp only [State.setEiPending_pc, hb]
    cases h : s.haltBug <;> simp [h, State.setEiPending]
  have h8 (t : State) : fetch8 (t.setEiPending v) = ((fetch8 t).1, (fetch8 t).2.setEiPending v) := by
    simp only [fetch8, State.setEiPending_pc, hb]
    rfl
  simp only [fetchInstr, ho, State.setEiPending_params]
  split <;> simp [h8]

/-- What a fetch gives does not depend on the run state. -/
theorem fetchInstr_setRun (v : RunState) :
    fetchInstr (s.setRun v) = ⟨(fetchInstr s).op, (fetchInstr s).instr, (fetchInstr s).state.setRun v⟩ := by
  have hb (a : Word) (t : State) : busRead a (t.setRun v) = ((busRead a t).1, (busRead a t).2.setRun v) := by
    unfold busRead peek extRead
    cases regionOf a <;> rfl
  have ho : fetchOpcode (s.setRun v) = ((fetchOpcode s).1, (fetchOpcode s).2.setRun v) := by
    unfold fetchOpcode
    simp only [State.setRun_pc, hb]
    cases h : s.haltBug <;> simp [h, State.setRun]
  have h8 (t : State) : fetch8 (t.setRun v) = ((fetch8 t).1, (fetch8 t).2.setRun v) := by
    simp only [fetch8, State.setRun_pc, hb]
    rfl
  simp only [fetchInstr, ho, State.setRun_params]
  split <;> simp [h8]

/-! ## Operands (R103, R104) -/

@[simp] theorem readR8_a (r : R8) : (readR8 r s |>.2).a = s.a := by cases r <;> simp [readR8]
@[simp] theorem readR8_f (r : R8) : (readR8 r s |>.2).f = s.f := by cases r <;> simp [readR8]
@[simp] theorem readR8_b (r : R8) : (readR8 r s |>.2).b = s.b := by cases r <;> simp [readR8]
@[simp] theorem readR8_c (r : R8) : (readR8 r s |>.2).c = s.c := by cases r <;> simp [readR8]
@[simp] theorem readR8_d (r : R8) : (readR8 r s |>.2).d = s.d := by cases r <;> simp [readR8]
@[simp] theorem readR8_e (r : R8) : (readR8 r s |>.2).e = s.e := by cases r <;> simp [readR8]
@[simp] theorem readR8_h (r : R8) : (readR8 r s |>.2).h = s.h := by cases r <;> simp [readR8]
@[simp] theorem readR8_l (r : R8) : (readR8 r s |>.2).l = s.l := by cases r <;> simp [readR8]
@[simp] theorem readR8_sp (r : R8) : (readR8 r s |>.2).sp = s.sp := by cases r <;> simp [readR8]
@[simp] theorem readR8_pc (r : R8) : (readR8 r s |>.2).pc = s.pc := by cases r <;> simp [readR8]
@[simp] theorem readR8_ime (r : R8) : (readR8 r s |>.2).ime = s.ime := by cases r <;> simp [readR8]
@[simp] theorem readR8_eiPending (r : R8) : (readR8 r s |>.2).eiPending = s.eiPending := by cases r <;> simp [readR8]
@[simp] theorem readR8_ie (r : R8) : (readR8 r s |>.2).ie = s.ie := by cases r <;> simp [readR8]
@[simp] theorem readR8_iflag (r : R8) : (readR8 r s |>.2).iflag = s.iflag := by cases r <;> simp [readR8]
@[simp] theorem readR8_run (r : R8) : (readR8 r s |>.2).run = s.run := by cases r <;> simp [readR8]
@[simp] theorem readR8_haltBug (r : R8) : (readR8 r s |>.2).haltBug = s.haltBug := by cases r <;> simp [readR8]
@[simp] theorem readR8_locked (r : R8) : (readR8 r s |>.2).locked = s.locked := by cases r <;> simp [readR8]
@[simp] theorem readR8_illegalOpcode (r : R8) : (readR8 r s |>.2).illegalOpcode = s.illegalOpcode := by cases r <;> simp [readR8]
@[simp] theorem readR8_illegalPc (r : R8) : (readR8 r s |>.2).illegalPc = s.illegalPc := by cases r <;> simp [readR8]
@[simp] theorem readR8_mem (r : R8) : (readR8 r s |>.2).mem = s.mem := by cases r <;> simp [readR8]
@[simp] theorem readR8_opcodePc (r : R8) : (readR8 r s |>.2).opcodePc = s.opcodePc := by cases r <;> simp [readR8]
@[simp] theorem readR8_cycles (r : R8) : (readR8 r s |>.2).cycles = s.cycles := by cases r <;> simp [readR8]
@[simp] theorem readR8_params (r : R8) : (readR8 r s |>.2).params = s.params := by cases r <;> simp [readR8]

@[simp] theorem writeR8_f (r : R8) (v : Byte) : (writeR8 r v s).f = s.f := by cases r <;> simp [writeR8]
@[simp] theorem writeR8_sp (r : R8) (v : Byte) : (writeR8 r v s).sp = s.sp := by cases r <;> simp [writeR8]
@[simp] theorem writeR8_pc (r : R8) (v : Byte) : (writeR8 r v s).pc = s.pc := by cases r <;> simp [writeR8]
@[simp] theorem writeR8_ime (r : R8) (v : Byte) : (writeR8 r v s).ime = s.ime := by cases r <;> simp [writeR8]
@[simp] theorem writeR8_eiPending (r : R8) (v : Byte) : (writeR8 r v s).eiPending = s.eiPending := by cases r <;> simp [writeR8]
@[simp] theorem writeR8_run (r : R8) (v : Byte) : (writeR8 r v s).run = s.run := by cases r <;> simp [writeR8]
@[simp] theorem writeR8_haltBug (r : R8) (v : Byte) : (writeR8 r v s).haltBug = s.haltBug := by cases r <;> simp [writeR8]
@[simp] theorem writeR8_locked (r : R8) (v : Byte) : (writeR8 r v s).locked = s.locked := by cases r <;> simp [writeR8]
@[simp] theorem writeR8_illegalOpcode (r : R8) (v : Byte) : (writeR8 r v s).illegalOpcode = s.illegalOpcode := by cases r <;> simp [writeR8]
@[simp] theorem writeR8_illegalPc (r : R8) (v : Byte) : (writeR8 r v s).illegalPc = s.illegalPc := by cases r <;> simp [writeR8]
@[simp] theorem writeR8_opcodePc (r : R8) (v : Byte) : (writeR8 r v s).opcodePc = s.opcodePc := by cases r <;> simp [writeR8]
@[simp] theorem writeR8_cycles (r : R8) (v : Byte) : (writeR8 r v s).cycles = s.cycles := by cases r <;> simp [writeR8]
@[simp] theorem writeR8_params (r : R8) (v : Byte) : (writeR8 r v s).params = s.params := by cases r <;> simp [writeR8]

theorem writeR8_wf (r : R8) (v : Byte) (h : Memory.wf s.params.ramFill s.mem) : Memory.wf s.params.ramFill (writeR8 r v s).mem := by
  cases r <;> first | exact h | exact busWrite_wf _ _ _ h

/-- The low nibble of a masked F is zero (R33). -/
@[simp] theorem low_nibble_masked (v : Byte) : v &&& 0xF0#8 &&& 0x0F#8 = 0#8 := by
  simp [BitVec.and_assoc]

@[simp] theorem writeRp_a (r : Rp) (v : Word) : (writeRp r v s).a = s.a := by cases r <;> simp [writeRp]
@[simp] theorem writeRp_f (r : Rp) (v : Word) : (writeRp r v s).f = s.f := by cases r <;> simp [writeRp]
@[simp] theorem writeRp_pc (r : Rp) (v : Word) : (writeRp r v s).pc = s.pc := by cases r <;> simp [writeRp]
@[simp] theorem writeRp_ime (r : Rp) (v : Word) : (writeRp r v s).ime = s.ime := by cases r <;> simp [writeRp]
@[simp] theorem writeRp_eiPending (r : Rp) (v : Word) : (writeRp r v s).eiPending = s.eiPending := by cases r <;> simp [writeRp]
@[simp] theorem writeRp_ie (r : Rp) (v : Word) : (writeRp r v s).ie = s.ie := by cases r <;> simp [writeRp]
@[simp] theorem writeRp_iflag (r : Rp) (v : Word) : (writeRp r v s).iflag = s.iflag := by cases r <;> simp [writeRp]
@[simp] theorem writeRp_run (r : Rp) (v : Word) : (writeRp r v s).run = s.run := by cases r <;> simp [writeRp]
@[simp] theorem writeRp_haltBug (r : Rp) (v : Word) : (writeRp r v s).haltBug = s.haltBug := by cases r <;> simp [writeRp]
@[simp] theorem writeRp_locked (r : Rp) (v : Word) : (writeRp r v s).locked = s.locked := by cases r <;> simp [writeRp]
@[simp] theorem writeRp_illegalOpcode (r : Rp) (v : Word) : (writeRp r v s).illegalOpcode = s.illegalOpcode := by cases r <;> simp [writeRp]
@[simp] theorem writeRp_illegalPc (r : Rp) (v : Word) : (writeRp r v s).illegalPc = s.illegalPc := by cases r <;> simp [writeRp]
@[simp] theorem writeRp_mem (r : Rp) (v : Word) : (writeRp r v s).mem = s.mem := by cases r <;> simp [writeRp]
@[simp] theorem writeRp_port (r : Rp) (v : Word) : (writeRp r v s).port = s.port := by cases r <;> simp [writeRp]
@[simp] theorem writeRp_opcodePc (r : Rp) (v : Word) : (writeRp r v s).opcodePc = s.opcodePc := by cases r <;> simp [writeRp]
@[simp] theorem writeRp_cycles (r : Rp) (v : Word) : (writeRp r v s).cycles = s.cycles := by cases r <;> simp [writeRp]
@[simp] theorem writeRp_params (r : Rp) (v : Word) : (writeRp r v s).params = s.params := by cases r <;> simp [writeRp]

@[simp] theorem writeRp2_sp (r : Rp2) (v : Word) : (writeRp2 r v s).sp = s.sp := by cases r <;> simp [writeRp2]
@[simp] theorem writeRp2_pc (r : Rp2) (v : Word) : (writeRp2 r v s).pc = s.pc := by cases r <;> simp [writeRp2]
@[simp] theorem writeRp2_ime (r : Rp2) (v : Word) : (writeRp2 r v s).ime = s.ime := by cases r <;> simp [writeRp2]
@[simp] theorem writeRp2_eiPending (r : Rp2) (v : Word) : (writeRp2 r v s).eiPending = s.eiPending := by cases r <;> simp [writeRp2]
@[simp] theorem writeRp2_ie (r : Rp2) (v : Word) : (writeRp2 r v s).ie = s.ie := by cases r <;> simp [writeRp2]
@[simp] theorem writeRp2_iflag (r : Rp2) (v : Word) : (writeRp2 r v s).iflag = s.iflag := by cases r <;> simp [writeRp2]
@[simp] theorem writeRp2_run (r : Rp2) (v : Word) : (writeRp2 r v s).run = s.run := by cases r <;> simp [writeRp2]
@[simp] theorem writeRp2_haltBug (r : Rp2) (v : Word) : (writeRp2 r v s).haltBug = s.haltBug := by cases r <;> simp [writeRp2]
@[simp] theorem writeRp2_locked (r : Rp2) (v : Word) : (writeRp2 r v s).locked = s.locked := by cases r <;> simp [writeRp2]
@[simp] theorem writeRp2_illegalOpcode (r : Rp2) (v : Word) : (writeRp2 r v s).illegalOpcode = s.illegalOpcode := by cases r <;> simp [writeRp2]
@[simp] theorem writeRp2_illegalPc (r : Rp2) (v : Word) : (writeRp2 r v s).illegalPc = s.illegalPc := by cases r <;> simp [writeRp2]
@[simp] theorem writeRp2_mem (r : Rp2) (v : Word) : (writeRp2 r v s).mem = s.mem := by cases r <;> simp [writeRp2]
@[simp] theorem writeRp2_port (r : Rp2) (v : Word) : (writeRp2 r v s).port = s.port := by cases r <;> simp [writeRp2]
@[simp] theorem writeRp2_opcodePc (r : Rp2) (v : Word) : (writeRp2 r v s).opcodePc = s.opcodePc := by cases r <;> simp [writeRp2]
@[simp] theorem writeRp2_cycles (r : Rp2) (v : Word) : (writeRp2 r v s).cycles = s.cycles := by cases r <;> simp [writeRp2]
@[simp] theorem writeRp2_params (r : Rp2) (v : Word) : (writeRp2 r v s).params = s.params := by cases r <;> simp [writeRp2]

theorem writeRp2_flagsLow (r : Rp2) (v : Word) (h : s.f &&& 0x0F#8 = 0#8) :
    (writeRp2 r v s).f &&& 0x0F#8 = 0#8 := by
  cases r <;> simp [writeRp2, h]

/-! ## Exception and interrupts (R560, R571) -/

@[simp] theorem raiseIllegal_a (op : Byte) (x : Word) : (raiseIllegal op x s).a = s.a := rfl
@[simp] theorem raiseIllegal_f (op : Byte) (x : Word) : (raiseIllegal op x s).f = s.f := rfl
@[simp] theorem raiseIllegal_b (op : Byte) (x : Word) : (raiseIllegal op x s).b = s.b := rfl
@[simp] theorem raiseIllegal_c (op : Byte) (x : Word) : (raiseIllegal op x s).c = s.c := rfl
@[simp] theorem raiseIllegal_d (op : Byte) (x : Word) : (raiseIllegal op x s).d = s.d := rfl
@[simp] theorem raiseIllegal_e (op : Byte) (x : Word) : (raiseIllegal op x s).e = s.e := rfl
@[simp] theorem raiseIllegal_h (op : Byte) (x : Word) : (raiseIllegal op x s).h = s.h := rfl
@[simp] theorem raiseIllegal_l (op : Byte) (x : Word) : (raiseIllegal op x s).l = s.l := rfl
@[simp] theorem raiseIllegal_sp (op : Byte) (x : Word) : (raiseIllegal op x s).sp = s.sp := rfl
@[simp] theorem raiseIllegal_pc (op : Byte) (x : Word) : (raiseIllegal op x s).pc = s.pc := rfl
@[simp] theorem raiseIllegal_ime (op : Byte) (x : Word) : (raiseIllegal op x s).ime = s.ime := rfl
@[simp] theorem raiseIllegal_eiPending (op : Byte) (x : Word) : (raiseIllegal op x s).eiPending = s.eiPending := rfl
@[simp] theorem raiseIllegal_ie (op : Byte) (x : Word) : (raiseIllegal op x s).ie = s.ie := rfl
@[simp] theorem raiseIllegal_iflag (op : Byte) (x : Word) : (raiseIllegal op x s).iflag = s.iflag := rfl
@[simp] theorem raiseIllegal_run (op : Byte) (x : Word) : (raiseIllegal op x s).run = s.run := rfl
@[simp] theorem raiseIllegal_haltBug (op : Byte) (x : Word) : (raiseIllegal op x s).haltBug = s.haltBug := rfl
@[simp] theorem raiseIllegal_mem (op : Byte) (x : Word) : (raiseIllegal op x s).mem = s.mem := rfl
@[simp] theorem raiseIllegal_port (op : Byte) (x : Word) : (raiseIllegal op x s).port = s.port := rfl
@[simp] theorem raiseIllegal_opcodePc (op : Byte) (x : Word) : (raiseIllegal op x s).opcodePc = s.opcodePc := rfl
@[simp] theorem raiseIllegal_params (op : Byte) (x : Word) : (raiseIllegal op x s).params = s.params := rfl

@[simp] theorem dispatchInterrupt_a (k : InterruptSource) : (dispatchInterrupt k s).a = s.a := by simp [dispatchInterrupt]
@[simp] theorem dispatchInterrupt_f (k : InterruptSource) : (dispatchInterrupt k s).f = s.f := by simp [dispatchInterrupt]
@[simp] theorem dispatchInterrupt_b (k : InterruptSource) : (dispatchInterrupt k s).b = s.b := by simp [dispatchInterrupt]
@[simp] theorem dispatchInterrupt_c (k : InterruptSource) : (dispatchInterrupt k s).c = s.c := by simp [dispatchInterrupt]
@[simp] theorem dispatchInterrupt_d (k : InterruptSource) : (dispatchInterrupt k s).d = s.d := by simp [dispatchInterrupt]
@[simp] theorem dispatchInterrupt_e (k : InterruptSource) : (dispatchInterrupt k s).e = s.e := by simp [dispatchInterrupt]
@[simp] theorem dispatchInterrupt_h (k : InterruptSource) : (dispatchInterrupt k s).h = s.h := by simp [dispatchInterrupt]
@[simp] theorem dispatchInterrupt_l (k : InterruptSource) : (dispatchInterrupt k s).l = s.l := by simp [dispatchInterrupt]
@[simp] theorem dispatchInterrupt_run (k : InterruptSource) : (dispatchInterrupt k s).run = s.run := by simp [dispatchInterrupt]
@[simp] theorem dispatchInterrupt_locked (k : InterruptSource) : (dispatchInterrupt k s).locked = s.locked := by simp [dispatchInterrupt]
@[simp] theorem dispatchInterrupt_illegalOpcode (k : InterruptSource) : (dispatchInterrupt k s).illegalOpcode = s.illegalOpcode := by simp [dispatchInterrupt]
@[simp] theorem dispatchInterrupt_illegalPc (k : InterruptSource) : (dispatchInterrupt k s).illegalPc = s.illegalPc := by simp [dispatchInterrupt]
@[simp] theorem dispatchInterrupt_opcodePc (k : InterruptSource) : (dispatchInterrupt k s).opcodePc = s.opcodePc := by simp [dispatchInterrupt]
@[simp] theorem dispatchInterrupt_params (k : InterruptSource) : (dispatchInterrupt k s).params = s.params := by simp [dispatchInterrupt]

@[simp] theorem dispatchInterrupt_pc (k : InterruptSource) : (dispatchInterrupt k s).pc = k.vector := rfl
@[simp] theorem dispatchInterrupt_ime (k : InterruptSource) : (dispatchInterrupt k s).ime = false := rfl
@[simp] theorem dispatchInterrupt_eiPending (k : InterruptSource) : (dispatchInterrupt k s).eiPending = false := rfl
@[simp] theorem dispatchInterrupt_cycles (k : InterruptSource) : (dispatchInterrupt k s).cycles = 20#32 := rfl

@[simp] theorem dispatchInterrupt_haltBug (k : InterruptSource) : (dispatchInterrupt k s).haltBug = false := by
  simp [dispatchInterrupt]

@[simp] theorem dispatchInterrupt_sp (k : InterruptSource) : (dispatchInterrupt k s).sp = s.sp - 2 := by
  simp [dispatchInterrupt]

theorem dispatchInterrupt_wf (k : InterruptSource) (h : Memory.wf s.params.ramFill s.mem) :
    Memory.wf s.params.ramFill (dispatchInterrupt k s).mem := push16_wf (s.setHaltBug false) _ h

end Sys2Proof.Machine
end

