-- ==== Sys2Proof/Laws/Driver.lean ====
section
/-! SUPPORT. What a step can be (spec/60_exceptions.md R581), said once: `step_cases`. -/

namespace Sys2Proof.Machine

variable {s t : State}

/-- The instructions the decoder gives for the eleven illegal opcodes raise; every other outcome of a step
is one of these four (R581). -/
theorem step_cases (h : step s = .next t) :
    (s.locked = true ∧ t = idleStep s.params.lockedCycles s) ∨
    (s.locked = false ∧ (wake s).run ≠ .running ∧ t = idleStep (wake s).params.idleCycles (wake s)) ∨
    (s.locked = false ∧ (wake s).run = .running ∧ (wake s).ime = true ∧ (wake s).pending ≠ 0#5 ∧
      t = elapse (dispatchInterrupt (lowestSource (wake s).pending) (wake s))) ∨
    (s.locked = false ∧ (wake s).run = .running ∧ ¬((wake s).ime = true ∧ (wake s).pending ≠ 0#5) ∧
      ∃ u, exec (fetchInstr ((wake s).setEiPending false)).instr (fetchInstr ((wake s).setEiPending false)).state = .next u ∧
        t = elapse (applyEi (wake s).eiPending (fetchInstr ((wake s).setEiPending false)).op u)) := by
  simp only [step, driverStep] at h
  split at h
  · rename_i hl
    exact .inl ⟨hl, by cases h; rfl⟩
  · rename_i hl
    replace hl : s.locked = false := by simpa using hl
    refine .inr ?_
    split at h
    · rename_i hr
      exact .inl ⟨hl, hr, by cases h; rfl⟩
    · rename_i hr
      refine .inr ?_
      simp only [ne_eq, Decidable.not_not] at hr
      split at h
      · rename_i hd
        exact .inl ⟨hl, hr, hd.1, hd.2, by cases h; rfl⟩
      · rename_i hd
        refine .inr ⟨hl, hr, hd, ?_⟩
        unfold instructionStep at h
        simp only at h
        split at h
        · rename_i u hu
          exact ⟨u, hu, by cases h; rfl⟩
        · cases h
        · cases h

/-- A wake changes the run state alone (R577). -/
theorem wake_state (s : State) : wake s = { s with run := (wake s).run } := by
  unfold wake
  split <;> rfl

@[simp] theorem wake_a (s : State) : (wake s).a = s.a := by rw [wake_state]
@[simp] theorem wake_f (s : State) : (wake s).f = s.f := by rw [wake_state]
@[simp] theorem wake_b (s : State) : (wake s).b = s.b := by rw [wake_state]
@[simp] theorem wake_c (s : State) : (wake s).c = s.c := by rw [wake_state]
@[simp] theorem wake_d (s : State) : (wake s).d = s.d := by rw [wake_state]
@[simp] theorem wake_e (s : State) : (wake s).e = s.e := by rw [wake_state]
@[simp] theorem wake_h (s : State) : (wake s).h = s.h := by rw [wake_state]
@[simp] theorem wake_l (s : State) : (wake s).l = s.l := by rw [wake_state]
@[simp] theorem wake_sp (s : State) : (wake s).sp = s.sp := by rw [wake_state]
@[simp] theorem wake_pc (s : State) : (wake s).pc = s.pc := by rw [wake_state]
@[simp] theorem wake_ime (s : State) : (wake s).ime = s.ime := by rw [wake_state]
@[simp] theorem wake_eiPending (s : State) : (wake s).eiPending = s.eiPending := by rw [wake_state]
@[simp] theorem wake_ie (s : State) : (wake s).ie = s.ie := by rw [wake_state]
@[simp] theorem wake_iflag (s : State) : (wake s).iflag = s.iflag := by rw [wake_state]
@[simp] theorem wake_haltBug (s : State) : (wake s).haltBug = s.haltBug := by rw [wake_state]
@[simp] theorem wake_locked (s : State) : (wake s).locked = s.locked := by rw [wake_state]
@[simp] theorem wake_illegalOpcode (s : State) : (wake s).illegalOpcode = s.illegalOpcode := by rw [wake_state]
@[simp] theorem wake_illegalPc (s : State) : (wake s).illegalPc = s.illegalPc := by rw [wake_state]
@[simp] theorem wake_mem (s : State) : (wake s).mem = s.mem := by rw [wake_state]
@[simp] theorem wake_port (s : State) : (wake s).port = s.port := by rw [wake_state]
@[simp] theorem wake_opcodePc (s : State) : (wake s).opcodePc = s.opcodePc := by rw [wake_state]
@[simp] theorem wake_cycles (s : State) : (wake s).cycles = s.cycles := by rw [wake_state]
@[simp] theorem wake_params (s : State) : (wake s).params = s.params := by rw [wake_state]

@[simp] theorem wake_pending (s : State) : (wake s).pending = s.pending := by simp [State.pending]

/-- Where the next step executes an instruction, it is `instructionStep` of the woken state (R580). -/
theorem step_of_executesNext (h : s.executesNext = true) : step s = instructionStep (wake s) := by
  simp only [State.executesNext, Bool.and_eq_true, Bool.not_eq_true', Bool.and_eq_false_iff,
    decide_eq_true_eq, decide_eq_false_iff_not, ne_eq, not_not] at h
  obtain ⟨⟨hl, hr⟩, hd⟩ := h
  have hd' : ¬(s.ime = true ∧ s.pending ≠ 0#5) := by
    rintro ⟨hi, hp⟩
    rcases hd with h | h
    · simp [hi] at h
    · exact hp h
  simp [step, driverStep, hl, hr, hd']

end Sys2Proof.Machine
end

