-- ==== Sys2Proof/Laws/Exec.lean ====
section
/-! SUPPORT. No meaning faults or refuses (spec/60_exceptions.md R562): every one answers a next state. -/

namespace Sys2Proof.Machine

variable (s : State)

theorem jpCc_next (cc : Cc) (target : Word) : ∃ t, jpCc cc target s = .next t := by
  unfold jpCc
  split <;> exact ⟨_, rfl⟩

theorem jrCc_next (cc : Cc) (e : Byte) : ∃ t, jrCc cc e s = .next t := by
  unfold jrCc
  split <;> exact ⟨_, rfl⟩

theorem callCc_next (cc : Cc) (target : Word) : ∃ t, callCc cc target s = .next t := by
  unfold callCc
  split <;> exact ⟨_, rfl⟩

theorem retCc_next (cc : Cc) : ∃ t, retCc cc s = .next t := by
  unfold retCc
  split <;> exact ⟨_, rfl⟩

theorem halt_next : ∃ t, halt s = .next t := by
  unfold halt
  split <;> exact ⟨_, rfl⟩

theorem cbEntry_next (cbop : Byte) : ∃ t, cbEntry cbop s = .next t := by
  unfold cbEntry
  split <;> exact ⟨_, rfl⟩

/-- Every instruction answers a next state in every state. -/
theorem exec_next (i : Instr) : ∃ t, exec i s = .next t := by
  cases i
  case halt => exact halt_next s
  case prefixCb cbop => exact cbEntry_next s cbop
  all_goals first
    | exact ⟨_, rfl⟩
    | exact jpCc_next s _ _
    | exact jrCc_next s _ _
    | exact callCc_next s _ _
    | exact retCc_next s _

end Sys2Proof.Machine
end

