-- ==== Sys2Proof/Laws/Flags.lean ====
section
/-! SUPPORT. What the flag computations of Machine/Flags.lean give, in wrapping arithmetic on the operands and
comparisons of their exact sums (spec/42_alu8.md R300), and the halves of a word (spec/00_scope.md R10). -/

namespace Sys2Proof

theorem mk16_toNat (hi lo : Byte) : (mk16 hi lo).toNat = hi.toNat * 256 + lo.toNat := by
  simp only [mk16, BitVec.toNat_append]
  rw [← Nat.shiftLeft_add_eq_or_of_lt lo.isLt, Nat.shiftLeft_eq]

theorem hi8_toNat (w : Word) : (hi8 w).toNat = w.toNat / 256 := by
  have := w.isLt
  simp [hi8, Nat.shiftRight_eq_div_pow]
  omega

theorem lo8_toNat (w : Word) : (lo8 w).toNat = w.toNat % 256 := by
  simp [lo8]

@[simp] theorem mk16_hi8_lo8 (w : Word) : mk16 (hi8 w) (lo8 w) = w := by
  apply BitVec.eq_of_toNat_eq
  rw [mk16_toNat, hi8_toNat, lo8_toNat]
  omega

@[simp] theorem hi8_mk16 (hi lo : Byte) : hi8 (mk16 hi lo) = hi := by
  have := lo.isLt
  apply BitVec.eq_of_toNat_eq
  rw [hi8_toNat, mk16_toNat]
  omega

@[simp] theorem lo8_mk16 (hi lo : Byte) : lo8 (mk16 hi lo) = lo := by
  have := lo.isLt
  apply BitVec.eq_of_toNat_eq
  rw [lo8_toNat, mk16_toNat]
  omega

namespace Machine

/-- F holds the flags written to it (R33). -/
@[simp] theorem flags_setFlags (fl : Flags) (s : State) : (s.setFlags fl).flags = fl := by
  obtain ⟨z, n, h, c⟩ := fl
  revert z n h c
  show ∀ z n h c, Flags.ofByte (Flags.toByte ⟨z, n, h, c⟩ &&& 0xF0#8) = ⟨z, n, h, c⟩
  decide

theorem nibble_eq_mod (v : Byte) : nibble v = v.toNat % 16 := by
  rw [nibble, BitVec.toNat_and]
  exact Nat.and_two_pow_sub_one_eq_mod v.toNat 4

/-- `add8` is the wrapping sum with the carries of its exact sum (R300). -/
theorem add8_eq (a b : Byte) (c : Bool) :
    add8 a b c = (a + b + bit8 c,
      ⟨decide (a + b + bit8 c = 0#8), false, decide (15 < a.toNat % 16 + b.toNat % 16 + c.toNat),
        decide (255 < a.toNat + b.toNat + c.toNat)⟩) := by
  have e : BitVec.ofNat 8 (a.toNat + b.toNat + c.toNat) = a + b + bit8 c := by
    apply BitVec.eq_of_toNat_eq
    cases c <;> simp [bit8]
  simp only [add8, e, nibble_eq_mod, gt_iff_lt]

/-- `sub8` is the wrapping difference with the borrows of its exact difference (R300). -/
theorem sub8_eq (a b : Byte) (c : Bool) :
    sub8 a b c = (a - b - bit8 c,
      ⟨decide (a - b - bit8 c = 0#8), true, decide (a.toNat % 16 < b.toNat % 16 + c.toNat),
        decide (a.toNat < b.toNat + c.toNat)⟩) := by
  have ha := a.isLt
  have hb := b.isLt
  have e : BitVec.ofInt 8 ((a.toNat : Int) - b.toNat - c.toNat) = a - b - bit8 c := by
    apply BitVec.eq_of_toNat_eq
    rw [BitVec.toNat_ofInt]
    cases c <;> simp [bit8, BitVec.toNat_sub] <;> omega
  simp only [sub8, e, nibble_eq_mod]

/-- `INC r8` (R317). -/
theorem inc8_eq (v : Byte) (fl : Flags) :
    inc8 v fl = (v + 1#8, { fl with z := decide (v + 1#8 = 0#8), n := false, h := decide (v.toNat % 16 = 15) }) := by
  have e : BitVec.ofNat 8 (v.toNat + 1) = v + 1#8 := by
    apply BitVec.eq_of_toNat_eq
    simp
  simp only [inc8, e, nibble_eq_mod]

/-- `DEC r8` (R318). -/
theorem dec8_eq (v : Byte) (fl : Flags) :
    dec8 v fl = (v - 1#8, { fl with z := decide (v - 1#8 = 0#8), n := true, h := decide (v.toNat % 16 = 0) }) := by
  have hv := v.isLt
  have e : BitVec.ofInt 8 ((v.toNat : Int) - 1) = v - 1#8 := by
    apply BitVec.eq_of_toNat_eq
    rw [BitVec.toNat_ofInt]
    simp [BitVec.toNat_sub]
    omega
  simp only [dec8, e, nibble_eq_mod]

/-- `ADD HL,rr` is the wrapping sum; H and C are the carries out of bits 11 and 15 (R352). -/
theorem addHl_eq (a b : Word) (fl : Flags) :
    addHl a b fl = (a + b, { fl with
      n := false, h := decide (4095 < a.toNat % 4096 + b.toNat % 4096), c := decide (65535 < a.toNat + b.toNat) }) := by
  have e : BitVec.ofNat 16 (a.toNat + b.toNat) = a + b := by
    apply BitVec.eq_of_toNat_eq
    simp
  have m (x : Word) : (x &&& 0x0FFF#16).toNat = x.toNat % 4096 := by
    rw [BitVec.toNat_and]
    exact Nat.and_two_pow_sub_one_eq_mod x.toNat 12
  simp only [addHl, e, m, gt_iff_lt]

end Machine

end Sys2Proof
end

