-- ==== Sys2Proof/Tests/Slice0.lean ====
section
/-! SUPPORT. The model's own tests: every row of the two opcode tables decoded from the table's own text, the
refusal of the one ill-formed term, single steps whose results are those of spec/95_test_vectors.md, and for
every statement with hypotheses a witness that meets them. -/

open Sys2Proof Sys2Proof.Machine Sys2Proof.Stated

namespace Sys2Proof.Tests

/-! ## Helpers -/

/-- The base state of spec/95_test_vectors.md section 2. -/
def base : State := { State.resetIn Params.chosen true with f := 0x00#8 }

/-- Bytes placed in the block's RAM. -/
def load (a : Nat) (bs : List Byte) (s : State) : State :=
  bs.zipIdx.foldl (fun s p => placeByte (BitVec.ofNat 16 (a + p.2)) p.1 s) s

/-- A program at an address, with PC there. -/
def code (pc : Nat) (bs : List Byte) (s : State) : State := load pc bs { s with pc := BitVec.ofNat 16 pc }

/-- What one step leads to satisfies a test. -/
def after (s : State) (p : State → Bool) : Bool :=
  match step s with
  | .next t => p t
  | _ => false

/-- The byte of the block at an address is `v`. -/
def has (t : State) (a : Word) (v : Byte) : Bool := decide (peek a t = some v)

/-! ## Decoding: the rows of R110 and R111 -/

/-- Row 0x of the base table (R110). -/
theorem test_decode_base_0x :
    ([
      [0x00#8], [0x01#8, 0x34#8, 0x12#8], [0x02#8], [0x03#8], [0x04#8], [0x05#8], [0x06#8, 0x5A#8],
      [0x07#8], [0x08#8, 0xDE#8, 0xC0#8], [0x09#8], [0x0A#8], [0x0B#8], [0x0C#8], [0x0D#8],
      [0x0E#8, 0x5A#8], [0x0F#8]] : List (List Byte)).map (decode .two) =
    [
      .ok (.nop, []), .ok (.ldBcD16 0x1234#16, []), .ok (.ldIndBcA, []), .ok (.incBc, []), .ok (.incB, []),
      .ok (.decB, []), .ok (.ldBD8 0x5A#8, []), .ok (.rlca, []), .ok (.ldIndA16Sp 0xC0DE#16, []),
      .ok (.addHlBc, []), .ok (.ldAIndBc, []), .ok (.decBc, []), .ok (.incC, []), .ok (.decC, []),
      .ok (.ldCD8 0x5A#8, []), .ok (.rrca, [])] := rfl

/-- Row 1x of the base table (R110). -/
theorem test_decode_base_1x :
    ([
      [0x10#8, 0xD3#8], [0x11#8, 0x34#8, 0x12#8], [0x12#8], [0x13#8], [0x14#8], [0x15#8], [0x16#8, 0x5A#8],
      [0x17#8], [0x18#8, 0xFE#8], [0x19#8], [0x1A#8], [0x1B#8], [0x1C#8], [0x1D#8], [0x1E#8, 0x5A#8],
      [0x1F#8]] : List (List Byte)).map (decode .two) =
    [
      .ok (.stop (some 0xD3#8), []), .ok (.ldDeD16 0x1234#16, []), .ok (.ldIndDeA, []), .ok (.incDe, []),
      .ok (.incD, []), .ok (.decD, []), .ok (.ldDD8 0x5A#8, []), .ok (.rla, []), .ok (.jrE8 0xFE#8, []),
      .ok (.addHlDe, []), .ok (.ldAIndDe, []), .ok (.decDe, []), .ok (.incE, []), .ok (.decE, []),
      .ok (.ldED8 0x5A#8, []), .ok (.rra, [])] := rfl

/-- Row 2x of the base table (R110). -/
theorem test_decode_base_2x :
    ([
      [0x20#8, 0xFE#8], [0x21#8, 0x34#8, 0x12#8], [0x22#8], [0x23#8], [0x24#8], [0x25#8], [0x26#8, 0x5A#8],
      [0x27#8], [0x28#8, 0xFE#8], [0x29#8], [0x2A#8], [0x2B#8], [0x2C#8], [0x2D#8], [0x2E#8, 0x5A#8],
      [0x2F#8]] : List (List Byte)).map (decode .two) =
    [
      .ok (.jrNzE8 0xFE#8, []), .ok (.ldHlD16 0x1234#16, []), .ok (.ldIndHlIncA, []), .ok (.incHl, []),
      .ok (.incH, []), .ok (.decH, []), .ok (.ldHD8 0x5A#8, []), .ok (.daa, []), .ok (.jrZE8 0xFE#8, []),
      .ok (.addHlHl, []), .ok (.ldAIndHlInc, []), .ok (.decHl, []), .ok (.incL, []), .ok (.decL, []),
      .ok (.ldLD8 0x5A#8, []), .ok (.cpl, [])] := rfl

/-- Row 3x of the base table (R110). -/
theorem test_decode_base_3x :
    ([
      [0x30#8, 0xFE#8], [0x31#8, 0x34#8, 0x12#8], [0x32#8], [0x33#8], [0x34#8], [0x35#8], [0x36#8, 0x5A#8],
      [0x37#8], [0x38#8, 0xFE#8], [0x39#8], [0x3A#8], [0x3B#8], [0x3C#8], [0x3D#8], [0x3E#8, 0x5A#8],
      [0x3F#8]] : List (List Byte)).map (decode .two) =
    [
      .ok (.jrNcE8 0xFE#8, []), .ok (.ldSpD16 0x1234#16, []), .ok (.ldIndHlDecA, []), .ok (.incSp, []),
      .ok (.incIndHl, []), .ok (.decIndHl, []), .ok (.ldIndHlD8 0x5A#8, []), .ok (.scf, []),
      .ok (.jrCE8 0xFE#8, []), .ok (.addHlSp, []), .ok (.ldAIndHlDec, []), .ok (.decSp, []),
      .ok (.incA, []), .ok (.decA, []), .ok (.ldAD8 0x5A#8, []), .ok (.ccf, [])] := rfl

/-- Row 4x of the base table (R110). -/
theorem test_decode_base_4x :
    ([
      [0x40#8], [0x41#8], [0x42#8], [0x43#8], [0x44#8], [0x45#8], [0x46#8], [0x47#8], [0x48#8], [0x49#8],
      [0x4A#8], [0x4B#8], [0x4C#8], [0x4D#8], [0x4E#8], [0x4F#8]] : List (List Byte)).map (decode .two) =
    [
      .ok (.ldBB, []), .ok (.ldBC, []), .ok (.ldBD, []), .ok (.ldBE, []), .ok (.ldBH, []), .ok (.ldBL, []),
      .ok (.ldBIndHl, []), .ok (.ldBA, []), .ok (.ldCB, []), .ok (.ldCC, []), .ok (.ldCD, []),
      .ok (.ldCE, []), .ok (.ldCH, []), .ok (.ldCL, []), .ok (.ldCIndHl, []), .ok (.ldCA, [])] := rfl

/-- Row 5x of the base table (R110). -/
theorem test_decode_base_5x :
    ([
      [0x50#8], [0x51#8], [0x52#8], [0x53#8], [0x54#8], [0x55#8], [0x56#8], [0x57#8], [0x58#8], [0x59#8],
      [0x5A#8], [0x5B#8], [0x5C#8], [0x5D#8], [0x5E#8], [0x5F#8]] : List (List Byte)).map (decode .two) =
    [
      .ok (.ldDB, []), .ok (.ldDC, []), .ok (.ldDD, []), .ok (.ldDE, []), .ok (.ldDH, []), .ok (.ldDL, []),
      .ok (.ldDIndHl, []), .ok (.ldDA, []), .ok (.ldEB, []), .ok (.ldEC, []), .ok (.ldED, []),
      .ok (.ldEE, []), .ok (.ldEH, []), .ok (.ldEL, []), .ok (.ldEIndHl, []), .ok (.ldEA, [])] := rfl

/-- Row 6x of the base table (R110). -/
theorem test_decode_base_6x :
    ([
      [0x60#8], [0x61#8], [0x62#8], [0x63#8], [0x64#8], [0x65#8], [0x66#8], [0x67#8], [0x68#8], [0x69#8],
      [0x6A#8], [0x6B#8], [0x6C#8], [0x6D#8], [0x6E#8], [0x6F#8]] : List (List Byte)).map (decode .two) =
    [
      .ok (.ldHB, []), .ok (.ldHC, []), .ok (.ldHD, []), .ok (.ldHE, []), .ok (.ldHH, []), .ok (.ldHL, []),
      .ok (.ldHIndHl, []), .ok (.ldHA, []), .ok (.ldLB, []), .ok (.ldLC, []), .ok (.ldLD, []),
      .ok (.ldLE, []), .ok (.ldLH, []), .ok (.ldLL, []), .ok (.ldLIndHl, []), .ok (.ldLA, [])] := rfl

/-- Row 7x of the base table (R110). -/
theorem test_decode_base_7x :
    ([
      [0x70#8], [0x71#8], [0x72#8], [0x73#8], [0x74#8], [0x75#8], [0x76#8], [0x77#8], [0x78#8], [0x79#8],
      [0x7A#8], [0x7B#8], [0x7C#8], [0x7D#8], [0x7E#8], [0x7F#8]] : List (List Byte)).map (decode .two) =
    [
      .ok (.ldIndHlB, []), .ok (.ldIndHlC, []), .ok (.ldIndHlD, []), .ok (.ldIndHlE, []),
      .ok (.ldIndHlH, []), .ok (.ldIndHlL, []), .ok (.halt, []), .ok (.ldIndHlA, []), .ok (.ldAB, []),
      .ok (.ldAC, []), .ok (.ldAD, []), .ok (.ldAE, []), .ok (.ldAH, []), .ok (.ldAL, []),
      .ok (.ldAIndHl, []), .ok (.ldAA, [])] := rfl

/-- Row 8x of the base table (R110). -/
theorem test_decode_base_8x :
    ([
      [0x80#8], [0x81#8], [0x82#8], [0x83#8], [0x84#8], [0x85#8], [0x86#8], [0x87#8], [0x88#8], [0x89#8],
      [0x8A#8], [0x8B#8], [0x8C#8], [0x8D#8], [0x8E#8], [0x8F#8]] : List (List Byte)).map (decode .two) =
    [
      .ok (.addAB, []), .ok (.addAC, []), .ok (.addAD, []), .ok (.addAE, []), .ok (.addAH, []),
      .ok (.addAL, []), .ok (.addAIndHl, []), .ok (.addAA, []), .ok (.adcAB, []), .ok (.adcAC, []),
      .ok (.adcAD, []), .ok (.adcAE, []), .ok (.adcAH, []), .ok (.adcAL, []), .ok (.adcAIndHl, []),
      .ok (.adcAA, [])] := rfl

/-- Row 9x of the base table (R110). -/
theorem test_decode_base_9x :
    ([
      [0x90#8], [0x91#8], [0x92#8], [0x93#8], [0x94#8], [0x95#8], [0x96#8], [0x97#8], [0x98#8], [0x99#8],
      [0x9A#8], [0x9B#8], [0x9C#8], [0x9D#8], [0x9E#8], [0x9F#8]] : List (List Byte)).map (decode .two) =
    [
      .ok (.subB, []), .ok (.subC, []), .ok (.subD, []), .ok (.subE, []), .ok (.subH, []), .ok (.subL, []),
      .ok (.subIndHl, []), .ok (.subA, []), .ok (.sbcAB, []), .ok (.sbcAC, []), .ok (.sbcAD, []),
      .ok (.sbcAE, []), .ok (.sbcAH, []), .ok (.sbcAL, []), .ok (.sbcAIndHl, []), .ok (.sbcAA, [])] := rfl

/-- Row Ax of the base table (R110). -/
theorem test_decode_base_Ax :
    ([
      [0xA0#8], [0xA1#8], [0xA2#8], [0xA3#8], [0xA4#8], [0xA5#8], [0xA6#8], [0xA7#8], [0xA8#8], [0xA9#8],
      [0xAA#8], [0xAB#8], [0xAC#8], [0xAD#8], [0xAE#8], [0xAF#8]] : List (List Byte)).map (decode .two) =
    [
      .ok (.andB, []), .ok (.andC, []), .ok (.andD, []), .ok (.andE, []), .ok (.andH, []), .ok (.andL, []),
      .ok (.andIndHl, []), .ok (.andA, []), .ok (.xorB, []), .ok (.xorC, []), .ok (.xorD, []),
      .ok (.xorE, []), .ok (.xorH, []), .ok (.xorL, []), .ok (.xorIndHl, []), .ok (.xorA, [])] := rfl

/-- Row Bx of the base table (R110). -/
theorem test_decode_base_Bx :
    ([
      [0xB0#8], [0xB1#8], [0xB2#8], [0xB3#8], [0xB4#8], [0xB5#8], [0xB6#8], [0xB7#8], [0xB8#8], [0xB9#8],
      [0xBA#8], [0xBB#8], [0xBC#8], [0xBD#8], [0xBE#8], [0xBF#8]] : List (List Byte)).map (decode .two) =
    [
      .ok (.orB, []), .ok (.orC, []), .ok (.orD, []), .ok (.orE, []), .ok (.orH, []), .ok (.orL, []),
      .ok (.orIndHl, []), .ok (.orA, []), .ok (.cpB, []), .ok (.cpC, []), .ok (.cpD, []), .ok (.cpE, []),
      .ok (.cpH, []), .ok (.cpL, []), .ok (.cpIndHl, []), .ok (.cpA, [])] := rfl

/-- Row Cx of the base table (R110). -/
theorem test_decode_base_Cx :
    ([
      [0xC0#8], [0xC1#8], [0xC2#8, 0xDE#8, 0xC0#8], [0xC3#8, 0xDE#8, 0xC0#8], [0xC4#8, 0xDE#8, 0xC0#8],
      [0xC5#8], [0xC6#8, 0x5A#8], [0xC7#8], [0xC8#8], [0xC9#8], [0xCA#8, 0xDE#8, 0xC0#8],
      [0xCC#8, 0xDE#8, 0xC0#8], [0xCD#8, 0xDE#8, 0xC0#8], [0xCE#8, 0x5A#8], [0xCF#8]] : List (List Byte)).map (decode .two) =
    [
      .ok (.retNz, []), .ok (.popBc, []), .ok (.jpNzA16 0xC0DE#16, []), .ok (.jpA16 0xC0DE#16, []),
      .ok (.callNzA16 0xC0DE#16, []), .ok (.pushBc, []), .ok (.addAD8 0x5A#8, []), .ok (.rst00, []),
      .ok (.retZ, []), .ok (.ret, []), .ok (.jpZA16 0xC0DE#16, []), .ok (.callZA16 0xC0DE#16, []),
      .ok (.callA16 0xC0DE#16, []), .ok (.adcAD8 0x5A#8, []), .ok (.rst08, [])] := rfl

/-- Row Dx of the base table (R110). -/
theorem test_decode_base_Dx :
    ([
      [0xD0#8], [0xD1#8], [0xD2#8, 0xDE#8, 0xC0#8], [0xD3#8], [0xD4#8, 0xDE#8, 0xC0#8], [0xD5#8],
      [0xD6#8, 0x5A#8], [0xD7#8], [0xD8#8], [0xD9#8], [0xDA#8, 0xDE#8, 0xC0#8], [0xDB#8],
      [0xDC#8, 0xDE#8, 0xC0#8], [0xDD#8], [0xDE#8, 0x5A#8], [0xDF#8]] : List (List Byte)).map (decode .two) =
    [
      .ok (.retNc, []), .ok (.popDe, []), .ok (.jpNcA16 0xC0DE#16, []), .ok (.illegalD3, []),
      .ok (.callNcA16 0xC0DE#16, []), .ok (.pushDe, []), .ok (.subD8 0x5A#8, []), .ok (.rst10, []),
      .ok (.retC, []), .ok (.reti, []), .ok (.jpCA16 0xC0DE#16, []), .ok (.illegalDB, []),
      .ok (.callCA16 0xC0DE#16, []), .ok (.illegalDD, []), .ok (.sbcAD8 0x5A#8, []), .ok (.rst18, [])] := rfl

/-- Row Ex of the base table (R110). -/
theorem test_decode_base_Ex :
    ([
      [0xE0#8, 0x80#8], [0xE1#8], [0xE2#8], [0xE3#8], [0xE4#8], [0xE5#8], [0xE6#8, 0x5A#8], [0xE7#8],
      [0xE8#8, 0xFE#8], [0xE9#8], [0xEA#8, 0xDE#8, 0xC0#8], [0xEB#8], [0xEC#8], [0xED#8], [0xEE#8, 0x5A#8],
      [0xEF#8]] : List (List Byte)).map (decode .two) =
    [
      .ok (.ldhIndA8A 0x80#8, []), .ok (.popHl, []), .ok (.ldIndCA, []), .ok (.illegalE3, []),
      .ok (.illegalE4, []), .ok (.pushHl, []), .ok (.andD8 0x5A#8, []), .ok (.rst20, []),
      .ok (.addSpE8 0xFE#8, []), .ok (.jpHl, []), .ok (.ldIndA16A 0xC0DE#16, []), .ok (.illegalEB, []),
      .ok (.illegalEC, []), .ok (.illegalED, []), .ok (.xorD8 0x5A#8, []), .ok (.rst28, [])] := rfl

/-- Row Fx of the base table (R110). -/
theorem test_decode_base_Fx :
    ([
      [0xF0#8, 0x80#8], [0xF1#8], [0xF2#8], [0xF3#8], [0xF4#8], [0xF5#8], [0xF6#8, 0x5A#8], [0xF7#8],
      [0xF8#8, 0xFE#8], [0xF9#8], [0xFA#8, 0xDE#8, 0xC0#8], [0xFB#8], [0xFC#8], [0xFD#8], [0xFE#8, 0x5A#8],
      [0xFF#8]] : List (List Byte)).map (decode .two) =
    [
      .ok (.ldhAIndA8 0x80#8, []), .ok (.popAf, []), .ok (.ldAIndC, []), .ok (.di, []),
      .ok (.illegalF4, []), .ok (.pushAf, []), .ok (.orD8 0x5A#8, []), .ok (.rst30, []),
      .ok (.ldHlSpE8 0xFE#8, []), .ok (.ldSpHl, []), .ok (.ldAIndA16 0xC0DE#16, []), .ok (.ei, []),
      .ok (.illegalFC, []), .ok (.illegalFD, []), .ok (.cpD8 0x5A#8, []), .ok (.rst38, [])] := rfl

/-- Row 0x of the CB table (R111). -/
theorem test_decode_cb_0x :
    ([
      [0xCB#8, 0x00#8], [0xCB#8, 0x01#8], [0xCB#8, 0x02#8], [0xCB#8, 0x03#8], [0xCB#8, 0x04#8],
      [0xCB#8, 0x05#8], [0xCB#8, 0x06#8], [0xCB#8, 0x07#8], [0xCB#8, 0x08#8], [0xCB#8, 0x09#8],
      [0xCB#8, 0x0A#8], [0xCB#8, 0x0B#8], [0xCB#8, 0x0C#8], [0xCB#8, 0x0D#8], [0xCB#8, 0x0E#8],
      [0xCB#8, 0x0F#8]] : List (List Byte)).map (decode .two) =
    [
      .ok (.rlcB, []), .ok (.rlcC, []), .ok (.rlcD, []), .ok (.rlcE, []), .ok (.rlcH, []), .ok (.rlcL, []),
      .ok (.rlcIndHl, []), .ok (.rlcA, []), .ok (.rrcB, []), .ok (.rrcC, []), .ok (.rrcD, []),
      .ok (.rrcE, []), .ok (.rrcH, []), .ok (.rrcL, []), .ok (.rrcIndHl, []), .ok (.rrcA, [])] := rfl

/-- Row 1x of the CB table (R111). -/
theorem test_decode_cb_1x :
    ([
      [0xCB#8, 0x10#8], [0xCB#8, 0x11#8], [0xCB#8, 0x12#8], [0xCB#8, 0x13#8], [0xCB#8, 0x14#8],
      [0xCB#8, 0x15#8], [0xCB#8, 0x16#8], [0xCB#8, 0x17#8], [0xCB#8, 0x18#8], [0xCB#8, 0x19#8],
      [0xCB#8, 0x1A#8], [0xCB#8, 0x1B#8], [0xCB#8, 0x1C#8], [0xCB#8, 0x1D#8], [0xCB#8, 0x1E#8],
      [0xCB#8, 0x1F#8]] : List (List Byte)).map (decode .two) =
    [
      .ok (.rlB, []), .ok (.rlC, []), .ok (.rlD, []), .ok (.rlE, []), .ok (.rlH, []), .ok (.rlL, []),
      .ok (.rlIndHl, []), .ok (.rlA, []), .ok (.rrB, []), .ok (.rrC, []), .ok (.rrD, []), .ok (.rrE, []),
      .ok (.rrH, []), .ok (.rrL, []), .ok (.rrIndHl, []), .ok (.rrA, [])] := rfl

/-- Row 2x of the CB table (R111). -/
theorem test_decode_cb_2x :
    ([
      [0xCB#8, 0x20#8], [0xCB#8, 0x21#8], [0xCB#8, 0x22#8], [0xCB#8, 0x23#8], [0xCB#8, 0x24#8],
      [0xCB#8, 0x25#8], [0xCB#8, 0x26#8], [0xCB#8, 0x27#8], [0xCB#8, 0x28#8], [0xCB#8, 0x29#8],
      [0xCB#8, 0x2A#8], [0xCB#8, 0x2B#8], [0xCB#8, 0x2C#8], [0xCB#8, 0x2D#8], [0xCB#8, 0x2E#8],
      [0xCB#8, 0x2F#8]] : List (List Byte)).map (decode .two) =
    [
      .ok (.slaB, []), .ok (.slaC, []), .ok (.slaD, []), .ok (.slaE, []), .ok (.slaH, []), .ok (.slaL, []),
      .ok (.slaIndHl, []), .ok (.slaA, []), .ok (.sraB, []), .ok (.sraC, []), .ok (.sraD, []),
      .ok (.sraE, []), .ok (.sraH, []), .ok (.sraL, []), .ok (.sraIndHl, []), .ok (.sraA, [])] := rfl

/-- Row 3x of the CB table (R111). -/
theorem test_decode_cb_3x :
    ([
      [0xCB#8, 0x30#8], [0xCB#8, 0x31#8], [0xCB#8, 0x32#8], [0xCB#8, 0x33#8], [0xCB#8, 0x34#8],
      [0xCB#8, 0x35#8], [0xCB#8, 0x36#8], [0xCB#8, 0x37#8], [0xCB#8, 0x38#8], [0xCB#8, 0x39#8],
      [0xCB#8, 0x3A#8], [0xCB#8, 0x3B#8], [0xCB#8, 0x3C#8], [0xCB#8, 0x3D#8], [0xCB#8, 0x3E#8],
      [0xCB#8, 0x3F#8]] : List (List Byte)).map (decode .two) =
    [
      .ok (.swapB, []), .ok (.swapC, []), .ok (.swapD, []), .ok (.swapE, []), .ok (.swapH, []),
      .ok (.swapL, []), .ok (.swapIndHl, []), .ok (.swapA, []), .ok (.srlB, []), .ok (.srlC, []),
      .ok (.srlD, []), .ok (.srlE, []), .ok (.srlH, []), .ok (.srlL, []), .ok (.srlIndHl, []),
      .ok (.srlA, [])] := rfl

/-- Row 4x of the CB table (R111). -/
theorem test_decode_cb_4x :
    ([
      [0xCB#8, 0x40#8], [0xCB#8, 0x41#8], [0xCB#8, 0x42#8], [0xCB#8, 0x43#8], [0xCB#8, 0x44#8],
      [0xCB#8, 0x45#8], [0xCB#8, 0x46#8], [0xCB#8, 0x47#8], [0xCB#8, 0x48#8], [0xCB#8, 0x49#8],
      [0xCB#8, 0x4A#8], [0xCB#8, 0x4B#8], [0xCB#8, 0x4C#8], [0xCB#8, 0x4D#8], [0xCB#8, 0x4E#8],
      [0xCB#8, 0x4F#8]] : List (List Byte)).map (decode .two) =
    [
      .ok (.bit0B, []), .ok (.bit0C, []), .ok (.bit0D, []), .ok (.bit0E, []), .ok (.bit0H, []),
      .ok (.bit0L, []), .ok (.bit0IndHl, []), .ok (.bit0A, []), .ok (.bit1B, []), .ok (.bit1C, []),
      .ok (.bit1D, []), .ok (.bit1E, []), .ok (.bit1H, []), .ok (.bit1L, []), .ok (.bit1IndHl, []),
      .ok (.bit1A, [])] := rfl

/-- Row 5x of the CB table (R111). -/
theorem test_decode_cb_5x :
    ([
      [0xCB#8, 0x50#8], [0xCB#8, 0x51#8], [0xCB#8, 0x52#8], [0xCB#8, 0x53#8], [0xCB#8, 0x54#8],
      [0xCB#8, 0x55#8], [0xCB#8, 0x56#8], [0xCB#8, 0x57#8], [0xCB#8, 0x58#8], [0xCB#8, 0x59#8],
      [0xCB#8, 0x5A#8], [0xCB#8, 0x5B#8], [0xCB#8, 0x5C#8], [0xCB#8, 0x5D#8], [0xCB#8, 0x5E#8],
      [0xCB#8, 0x5F#8]] : List (List Byte)).map (decode .two) =
    [
      .ok (.bit2B, []), .ok (.bit2C, []), .ok (.bit2D, []), .ok (.bit2E, []), .ok (.bit2H, []),
      .ok (.bit2L, []), .ok (.bit2IndHl, []), .ok (.bit2A, []), .ok (.bit3B, []), .ok (.bit3C, []),
      .ok (.bit3D, []), .ok (.bit3E, []), .ok (.bit3H, []), .ok (.bit3L, []), .ok (.bit3IndHl, []),
      .ok (.bit3A, [])] := rfl

/-- Row 6x of the CB table (R111). -/
theorem test_decode_cb_6x :
    ([
      [0xCB#8, 0x60#8], [0xCB#8, 0x61#8], [0xCB#8, 0x62#8], [0xCB#8, 0x63#8], [0xCB#8, 0x64#8],
      [0xCB#8, 0x65#8], [0xCB#8, 0x66#8], [0xCB#8, 0x67#8], [0xCB#8, 0x68#8], [0xCB#8, 0x69#8],
      [0xCB#8, 0x6A#8], [0xCB#8, 0x6B#8], [0xCB#8, 0x6C#8], [0xCB#8, 0x6D#8], [0xCB#8, 0x6E#8],
      [0xCB#8, 0x6F#8]] : List (List Byte)).map (decode .two) =
    [
      .ok (.bit4B, []), .ok (.bit4C, []), .ok (.bit4D, []), .ok (.bit4E, []), .ok (.bit4H, []),
      .ok (.bit4L, []), .ok (.bit4IndHl, []), .ok (.bit4A, []), .ok (.bit5B, []), .ok (.bit5C, []),
      .ok (.bit5D, []), .ok (.bit5E, []), .ok (.bit5H, []), .ok (.bit5L, []), .ok (.bit5IndHl, []),
      .ok (.bit5A, [])] := rfl

/-- Row 7x of the CB table (R111). -/
theorem test_decode_cb_7x :
    ([
      [0xCB#8, 0x70#8], [0xCB#8, 0x71#8], [0xCB#8, 0x72#8], [0xCB#8, 0x73#8], [0xCB#8, 0x74#8],
      [0xCB#8, 0x75#8], [0xCB#8, 0x76#8], [0xCB#8, 0x77#8], [0xCB#8, 0x78#8], [0xCB#8, 0x79#8],
      [0xCB#8, 0x7A#8], [0xCB#8, 0x7B#8], [0xCB#8, 0x7C#8], [0xCB#8, 0x7D#8], [0xCB#8, 0x7E#8],
      [0xCB#8, 0x7F#8]] : List (List Byte)).map (decode .two) =
    [
      .ok (.bit6B, []), .ok (.bit6C, []), .ok (.bit6D, []), .ok (.bit6E, []), .ok (.bit6H, []),
      .ok (.bit6L, []), .ok (.bit6IndHl, []), .ok (.bit6A, []), .ok (.bit7B, []), .ok (.bit7C, []),
      .ok (.bit7D, []), .ok (.bit7E, []), .ok (.bit7H, []), .ok (.bit7L, []), .ok (.bit7IndHl, []),
      .ok (.bit7A, [])] := rfl

/-- Row 8x of the CB table (R111). -/
theorem test_decode_cb_8x :
    ([
      [0xCB#8, 0x80#8], [0xCB#8, 0x81#8], [0xCB#8, 0x82#8], [0xCB#8, 0x83#8], [0xCB#8, 0x84#8],
      [0xCB#8, 0x85#8], [0xCB#8, 0x86#8], [0xCB#8, 0x87#8], [0xCB#8, 0x88#8], [0xCB#8, 0x89#8],
      [0xCB#8, 0x8A#8], [0xCB#8, 0x8B#8], [0xCB#8, 0x8C#8], [0xCB#8, 0x8D#8], [0xCB#8, 0x8E#8],
      [0xCB#8, 0x8F#8]] : List (List Byte)).map (decode .two) =
    [
      .ok (.res0B, []), .ok (.res0C, []), .ok (.res0D, []), .ok (.res0E, []), .ok (.res0H, []),
      .ok (.res0L, []), .ok (.res0IndHl, []), .ok (.res0A, []), .ok (.res1B, []), .ok (.res1C, []),
      .ok (.res1D, []), .ok (.res1E, []), .ok (.res1H, []), .ok (.res1L, []), .ok (.res1IndHl, []),
      .ok (.res1A, [])] := rfl

/-- Row 9x of the CB table (R111). -/
theorem test_decode_cb_9x :
    ([
      [0xCB#8, 0x90#8], [0xCB#8, 0x91#8], [0xCB#8, 0x92#8], [0xCB#8, 0x93#8], [0xCB#8, 0x94#8],
      [0xCB#8, 0x95#8], [0xCB#8, 0x96#8], [0xCB#8, 0x97#8], [0xCB#8, 0x98#8], [0xCB#8, 0x99#8],
      [0xCB#8, 0x9A#8], [0xCB#8, 0x9B#8], [0xCB#8, 0x9C#8], [0xCB#8, 0x9D#8], [0xCB#8, 0x9E#8],
      [0xCB#8, 0x9F#8]] : List (List Byte)).map (decode .two) =
    [
      .ok (.res2B, []), .ok (.res2C, []), .ok (.res2D, []), .ok (.res2E, []), .ok (.res2H, []),
      .ok (.res2L, []), .ok (.res2IndHl, []), .ok (.res2A, []), .ok (.res3B, []), .ok (.res3C, []),
      .ok (.res3D, []), .ok (.res3E, []), .ok (.res3H, []), .ok (.res3L, []), .ok (.res3IndHl, []),
      .ok (.res3A, [])] := rfl

/-- Row Ax of the CB table (R111). -/
theorem test_decode_cb_Ax :
    ([
      [0xCB#8, 0xA0#8], [0xCB#8, 0xA1#8], [0xCB#8, 0xA2#8], [0xCB#8, 0xA3#8], [0xCB#8, 0xA4#8],
      [0xCB#8, 0xA5#8], [0xCB#8, 0xA6#8], [0xCB#8, 0xA7#8], [0xCB#8, 0xA8#8], [0xCB#8, 0xA9#8],
      [0xCB#8, 0xAA#8], [0xCB#8, 0xAB#8], [0xCB#8, 0xAC#8], [0xCB#8, 0xAD#8], [0xCB#8, 0xAE#8],
      [0xCB#8, 0xAF#8]] : List (List Byte)).map (decode .two) =
    [
      .ok (.res4B, []), .ok (.res4C, []), .ok (.res4D, []), .ok (.res4E, []), .ok (.res4H, []),
      .ok (.res4L, []), .ok (.res4IndHl, []), .ok (.res4A, []), .ok (.res5B, []), .ok (.res5C, []),
      .ok (.res5D, []), .ok (.res5E, []), .ok (.res5H, []), .ok (.res5L, []), .ok (.res5IndHl, []),
      .ok (.res5A, [])] := rfl

/-- Row Bx of the CB table (R111). -/
theorem test_decode_cb_Bx :
    ([
      [0xCB#8, 0xB0#8], [0xCB#8, 0xB1#8], [0xCB#8, 0xB2#8], [0xCB#8, 0xB3#8], [0xCB#8, 0xB4#8],
      [0xCB#8, 0xB5#8], [0xCB#8, 0xB6#8], [0xCB#8, 0xB7#8], [0xCB#8, 0xB8#8], [0xCB#8, 0xB9#8],
      [0xCB#8, 0xBA#8], [0xCB#8, 0xBB#8], [0xCB#8, 0xBC#8], [0xCB#8, 0xBD#8], [0xCB#8, 0xBE#8],
      [0xCB#8, 0xBF#8]] : List (List Byte)).map (decode .two) =
    [
      .ok (.res6B, []), .ok (.res6C, []), .ok (.res6D, []), .ok (.res6E, []), .ok (.res6H, []),
      .ok (.res6L, []), .ok (.res6IndHl, []), .ok (.res6A, []), .ok (.res7B, []), .ok (.res7C, []),
      .ok (.res7D, []), .ok (.res7E, []), .ok (.res7H, []), .ok (.res7L, []), .ok (.res7IndHl, []),
      .ok (.res7A, [])] := rfl

/-- Row Cx of the CB table (R111). -/
theorem test_decode_cb_Cx :
    ([
      [0xCB#8, 0xC0#8], [0xCB#8, 0xC1#8], [0xCB#8, 0xC2#8], [0xCB#8, 0xC3#8], [0xCB#8, 0xC4#8],
      [0xCB#8, 0xC5#8], [0xCB#8, 0xC6#8], [0xCB#8, 0xC7#8], [0xCB#8, 0xC8#8], [0xCB#8, 0xC9#8],
      [0xCB#8, 0xCA#8], [0xCB#8, 0xCB#8], [0xCB#8, 0xCC#8], [0xCB#8, 0xCD#8], [0xCB#8, 0xCE#8],
      [0xCB#8, 0xCF#8]] : List (List Byte)).map (decode .two) =
    [
      .ok (.set0B, []), .ok (.set0C, []), .ok (.set0D, []), .ok (.set0E, []), .ok (.set0H, []),
      .ok (.set0L, []), .ok (.set0IndHl, []), .ok (.set0A, []), .ok (.set1B, []), .ok (.set1C, []),
      .ok (.set1D, []), .ok (.set1E, []), .ok (.set1H, []), .ok (.set1L, []), .ok (.set1IndHl, []),
      .ok (.set1A, [])] := rfl

/-- Row Dx of the CB table (R111). -/
theorem test_decode_cb_Dx :
    ([
      [0xCB#8, 0xD0#8], [0xCB#8, 0xD1#8], [0xCB#8, 0xD2#8], [0xCB#8, 0xD3#8], [0xCB#8, 0xD4#8],
      [0xCB#8, 0xD5#8], [0xCB#8, 0xD6#8], [0xCB#8, 0xD7#8], [0xCB#8, 0xD8#8], [0xCB#8, 0xD9#8],
      [0xCB#8, 0xDA#8], [0xCB#8, 0xDB#8], [0xCB#8, 0xDC#8], [0xCB#8, 0xDD#8], [0xCB#8, 0xDE#8],
      [0xCB#8, 0xDF#8]] : List (List Byte)).map (decode .two) =
    [
      .ok (.set2B, []), .ok (.set2C, []), .ok (.set2D, []), .ok (.set2E, []), .ok (.set2H, []),
      .ok (.set2L, []), .ok (.set2IndHl, []), .ok (.set2A, []), .ok (.set3B, []), .ok (.set3C, []),
      .ok (.set3D, []), .ok (.set3E, []), .ok (.set3H, []), .ok (.set3L, []), .ok (.set3IndHl, []),
      .ok (.set3A, [])] := rfl

/-- Row Ex of the CB table (R111). -/
theorem test_decode_cb_Ex :
    ([
      [0xCB#8, 0xE0#8], [0xCB#8, 0xE1#8], [0xCB#8, 0xE2#8], [0xCB#8, 0xE3#8], [0xCB#8, 0xE4#8],
      [0xCB#8, 0xE5#8], [0xCB#8, 0xE6#8], [0xCB#8, 0xE7#8], [0xCB#8, 0xE8#8], [0xCB#8, 0xE9#8],
      [0xCB#8, 0xEA#8], [0xCB#8, 0xEB#8], [0xCB#8, 0xEC#8], [0xCB#8, 0xED#8], [0xCB#8, 0xEE#8],
      [0xCB#8, 0xEF#8]] : List (List Byte)).map (decode .two) =
    [
      .ok (.set4B, []), .ok (.set4C, []), .ok (.set4D, []), .ok (.set4E, []), .ok (.set4H, []),
      .ok (.set4L, []), .ok (.set4IndHl, []), .ok (.set4A, []), .ok (.set5B, []), .ok (.set5C, []),
      .ok (.set5D, []), .ok (.set5E, []), .ok (.set5H, []), .ok (.set5L, []), .ok (.set5IndHl, []),
      .ok (.set5A, [])] := rfl

/-- Row Fx of the CB table (R111). -/
theorem test_decode_cb_Fx :
    ([
      [0xCB#8, 0xF0#8], [0xCB#8, 0xF1#8], [0xCB#8, 0xF2#8], [0xCB#8, 0xF3#8], [0xCB#8, 0xF4#8],
      [0xCB#8, 0xF5#8], [0xCB#8, 0xF6#8], [0xCB#8, 0xF7#8], [0xCB#8, 0xF8#8], [0xCB#8, 0xF9#8],
      [0xCB#8, 0xFA#8], [0xCB#8, 0xFB#8], [0xCB#8, 0xFC#8], [0xCB#8, 0xFD#8], [0xCB#8, 0xFE#8],
      [0xCB#8, 0xFF#8]] : List (List Byte)).map (decode .two) =
    [
      .ok (.set6B, []), .ok (.set6C, []), .ok (.set6D, []), .ok (.set6E, []), .ok (.set6H, []),
      .ok (.set6L, []), .ok (.set6IndHl, []), .ok (.set6A, []), .ok (.set7B, []), .ok (.set7C, []),
      .ok (.set7D, []), .ok (.set7E, []), .ok (.set7H, []), .ok (.set7L, []), .ok (.set7IndHl, []),
      .ok (.set7A, [])] := rfl

/-- The prefix's own row, as spec/opcode_table.json numbers it (log 4), beside a CB row of 16 bits (R117). -/
theorem test_decode_table_words :
    decodeTableWord 8 0xCB = some (.prefixCb 0x00#8) ∧ decodeTableWord 16 0xCB37 = some .swapA ∧
    decodeTableWord 8 0x76 = some .halt ∧ decodeTableWord 16 0x5A06 = some (.ldBD8 0x5A#8) := by decide

/-- An instruction cut short is refused by name. -/
theorem test_decode_truncated :
    decode .two [] = .error .truncated ∧ decode .two [0x06#8] = .error .truncated ∧
    decode .two [0xCB#8] = .error .truncated ∧ decode .two [0xC3#8, 0x00#8] = .error .truncated ∧
    decode .two [0x10#8] = .error .truncated := ⟨rfl, rfl, rfl, rfl, rfl⟩

/-- With `STOP_LENGTH` 1 STOP is its opcode alone (R531). -/
theorem test_decode_stop_one :
    decode .one [0x10#8, 0xD3#8] = .ok (.stop none, [0xD3#8]) ∧ decode .one [0x10#8] = .ok (.stop none, []) :=
  ⟨rfl, rfl⟩

/-! ## Well-formedness (R535) -/

/-- The prefix row is no instruction of its own, for any second byte. -/
theorem test_wf_refuses_prefixCb :
    Instr.wf .two (.prefixCb 0x37#8) = false ∧ Instr.wf .one (.prefixCb 0x00#8) = false := by decide

/-- STOP without the byte it fetches, and with a byte it does not fetch (R531). -/
theorem test_wf_refuses_stop :
    Instr.wf .two (.stop none) = false ∧ Instr.wf .one (.stop (some 0x00#8)) = false := by decide

theorem test_wf_accepts :
    Instr.wf .two .swapA = true ∧ Instr.wf .two (.stop (some 0xD3#8)) = true ∧ Instr.wf .one (.stop none) = true ∧
    Instr.wf .two .illegalFC = true := by decide

/-! ## Single steps, from spec/95_test_vectors.md -/

/-- V3: LD A,(HL). -/
theorem test_V3_ld_a_hl :
    after (load 0xC100 [0x42#8] (code 0xC000 [0x7E#8] { base with h := 0xC1#8, l := 0x00#8 })) (fun t =>
      t.a == 0x42#8 && t.pc == 0xC001#16 && t.cycles == 8#32) = true := by decide

/-- V4: LD H,(HL). -/
theorem test_V4_ld_h_hl :
    after (load 0xC123 [0x77#8] (code 0xC000 [0x66#8] { base with h := 0xC1#8, l := 0x23#8 })) (fun t =>
      t.h == 0x77#8 && t.pc == 0xC001#16 && t.cycles == 8#32) = true := by decide

/-- V6: LD (HL),A to IE. -/
theorem test_V6_ld_hl_a_to_ie :
    after (code 0xC000 [0x77#8] { base with h := 0xFF#8, l := 0xFF#8, a := 0x1F#8 }) (fun t =>
      t.pc == 0xC001#16 && t.ie == 0x1F#8 && t.cycles == 8#32) = true := by decide

/-- V8: LD (HL),d8. -/
theorem test_V8_ld_hl_d8 :
    after (code 0xC000 [0x36#8, 0x99#8] { base with h := 0xD0#8, l := 0x00#8 }) (fun t =>
      t.pc == 0xC002#16 && has t 0xD000#16 0x99#8 && t.cycles == 12#32) = true := by decide

/-- V9: LD A,(BC) open bus. -/
theorem test_V9_ld_a_bc_open_bus :
    after (code 0xC000 [0x0A#8] { base with b := 0xFE#8, c := 0xA0#8, a := 0x00#8 }) (fun t =>
      t.a == 0xFF#8 && t.pc == 0xC001#16 && t.cycles == 8#32) = true := by decide

/-- V12: LD (DE),A via echo. -/
theorem test_V12_ld_de_a_via_echo :
    after (code 0xC000 [0x12#8] { base with d := 0xE0#8, e := 0x10#8, a := 0x33#8 }) (fun t =>
      t.pc == 0xC001#16 && has t 0xC010#16 0x33#8 && has t 0xE010#16 0x33#8 && t.cycles == 8#32) = true := by decide

/-- V13: LD A,(a16) of IF. -/
theorem test_V13_ld_a_a16_of_if :
    after (code 0xC000 [0xFA#8, 0x0F#8, 0xFF#8] { base with a := 0x00#8, iflag := 0x01#5 }) (fun t =>
      t.a == 0xE1#8 && t.pc == 0xC003#16 && t.cycles == 16#32) = true := by decide

/-- V16: LDH (a8),A to IF. -/
theorem test_V16_ldh_a8_a_to_if :
    after (code 0xC000 [0xE0#8, 0x0F#8] { base with a := 0xFF#8, iflag := 0x00#5 }) (fun t =>
      t.pc == 0xC002#16 && t.iflag == 0x1F#5 && has t 0xFF0F#16 0xFF#8 && t.cycles == 12#32) = true := by decide

/-- V18: LD (C),A. -/
theorem test_V18_ld_c_a :
    after (code 0xC000 [0xE2#8] { base with c := 0x90#8, a := 0x66#8 }) (fun t =>
      t.pc == 0xC001#16 && has t 0xFF90#16 0x66#8 && t.cycles == 8#32) = true := by decide

/-- V20: LD (HL-),A. -/
theorem test_V20_ld_hl_a :
    after (code 0xC100 [0x32#8] { base with h := 0xC0#8, l := 0x00#8, a := 0x02#8 }) (fun t =>
      t.h == 0xBF#8 && t.l == 0xFF#8 && t.pc == 0xC101#16 && has t 0xC000#16 0x02#8 && t.cycles == 8#32) = true := by decide

/-- V21: LD A,(HL+) wraps. -/
theorem test_V21_ld_a_hl_wraps :
    after (code 0xC000 [0x2A#8] { base with h := 0xFF#8, l := 0xFF#8, ie := 0x09#8 }) (fun t =>
      t.a == 0x09#8 && t.h == 0x00#8 && t.l == 0x00#8 && t.pc == 0xC001#16 && t.cycles == 8#32) = true := by decide

/-- V22: LD A,(HL-). -/
theorem test_V22_ld_a_hl :
    after (load 0xC101 [0x7E#8] (code 0xC000 [0x3A#8] { base with h := 0xC1#8, l := 0x01#8 })) (fun t =>
      t.a == 0x7E#8 && t.l == 0x00#8 && t.pc == 0xC001#16 && t.cycles == 8#32) = true := by decide

/-- V23: LD BC,d16. -/
theorem test_V23_ld_bc_d16 :
    after (code 0xC000 [0x01#8, 0x34#8, 0x12#8] base) (fun t =>
      t.b == 0x12#8 && t.c == 0x34#8 && t.pc == 0xC003#16 && t.cycles == 12#32) = true := by decide

/-- V25: LD (a16),SP. -/
theorem test_V25_ld_a16_sp :
    after (code 0xC000 [0x08#8, 0x00#8, 0xC1#8] { base with sp := 0xFFF8#16 }) (fun t =>
      t.pc == 0xC003#16 && has t 0xC100#16 0xF8#8 && has t 0xC101#16 0xFF#8 && t.cycles == 20#32) = true := by decide

/-- V26: LD SP,HL. -/
theorem test_V26_ld_sp_hl :
    after (code 0xC000 [0xF9#8] { base with h := 0xC8#8, l := 0x00#8 }) (fun t =>
      t.sp == 0xC800#16 && t.pc == 0xC001#16 && t.cycles == 8#32) = true := by decide

/-- V28: PUSH AF. -/
theorem test_V28_push_af :
    after (code 0xC000 [0xF5#8] { base with sp := 0xFFFE#16, a := 0x12#8, f := 0xB0#8 }) (fun t =>
      t.sp == 0xFFFC#16 && t.pc == 0xC001#16 && has t 0xFFFD#16 0x12#8 && has t 0xFFFC#16 0xB0#8 && t.cycles == 16#32) = true := by decide

/-- V29: PUSH DE at SP=0x0000. -/
theorem test_V29_push_de_at_sp_0x0000 :
    after (code 0xC000 [0xD5#8] { base with sp := 0x0000#16, d := 0x1F#8, e := 0x80#8, ie := 0x00#8 }) (fun t =>
      t.sp == 0xFFFE#16 && t.pc == 0xC001#16 && t.ie == 0x1F#8 && has t 0xFFFE#16 0x80#8 && t.cycles == 16#32) = true := by decide

/-- V31: POP AF masks F. -/
theorem test_V31_pop_af_masks_f :
    after (load 0xFFFC [0xFF#8, 0x12#8] (code 0xC000 [0xF1#8] { base with sp := 0xFFFC#16 })) (fun t =>
      t.a == 0x12#8 && t.f == 0xF0#8 && t.sp == 0xFFFE#16 && t.pc == 0xC001#16 && t.cycles == 12#32) = true := by decide

/-- V37: ADD A,(HL). -/
theorem test_V37_add_a_hl :
    after (load 0xC100 [0x12#8] (code 0xC000 [0x86#8] { base with a := 0x3C#8, h := 0xC1#8, l := 0x00#8 })) (fun t =>
      t.a == 0x4E#8 && t.pc == 0xC001#16 && t.cycles == 8#32) = true := by decide

/-- V38: ADC A,C with carry. -/
theorem test_V38_adc_a_c_with_carry :
    after (code 0xC000 [0x89#8] { base with a := 0xFF#8, c := 0x00#8, f := 0x10#8 }) (fun t =>
      t.a == 0x00#8 && t.f == 0xB0#8 && t.pc == 0xC001#16 && t.cycles == 4#32) = true := by decide

/-- V42: SUB A,B borrow. -/
theorem test_V42_sub_a_b_borrow :
    after (code 0xC000 [0x90#8] { base with a := 0x00#8, b := 0x01#8 }) (fun t =>
      t.a == 0xFF#8 && t.f == 0x70#8 && t.pc == 0xC001#16 && t.cycles == 4#32) = true := by decide

/-- V43: SBC A,B with carry. -/
theorem test_V43_sbc_a_b_with_carry :
    after (code 0xC000 [0x98#8] { base with a := 0x00#8, b := 0x00#8, f := 0x10#8 }) (fun t =>
      t.a == 0xFF#8 && t.f == 0x70#8 && t.pc == 0xC001#16 && t.cycles == 4#32) = true := by decide

/-- V46: AND d8 zero. -/
theorem test_V46_and_d8_zero :
    after (code 0xC000 [0xE6#8, 0xA5#8] { base with a := 0x5A#8, f := 0x10#8 }) (fun t =>
      t.a == 0x00#8 && t.f == 0xA0#8 && t.pc == 0xC002#16 && t.cycles == 8#32) = true := by decide

/-- V47: XOR A. -/
theorem test_V47_xor_a :
    after (code 0xC000 [0xAF#8] { base with a := 0x5A#8, f := 0x70#8 }) (fun t =>
      t.a == 0x00#8 && t.f == 0x80#8 && t.pc == 0xC001#16 && t.cycles == 4#32) = true := by decide

/-- V50: OR d8. -/
theorem test_V50_or_d8 :
    after (code 0xC000 [0xF6#8, 0x03#8] { base with a := 0x5A#8 }) (fun t =>
      t.a == 0x5B#8 && t.pc == 0xC002#16 && t.cycles == 8#32) = true := by decide

/-- V51: CP B less. -/
theorem test_V51_cp_b_less :
    after (code 0xC000 [0xB8#8] { base with a := 0x3C#8, b := 0x40#8 }) (fun t =>
      t.f == 0x50#8 && t.pc == 0xC001#16 && t.cycles == 4#32) = true := by decide

/-- V54: INC A from 0xFF. -/
theorem test_V54_inc_a_from_0xff :
    after (code 0xC000 [0x3C#8] { base with a := 0xFF#8, f := 0x10#8 }) (fun t =>
      t.a == 0x00#8 && t.f == 0xB0#8 && t.pc == 0xC001#16 && t.cycles == 4#32) = true := by decide

/-- V58: DEC D from 0x00. -/
theorem test_V58_dec_d_from_0x00 :
    after (code 0xC000 [0x15#8] { base with d := 0x00#8 }) (fun t =>
      t.f == 0x60#8 && t.d == 0xFF#8 && t.pc == 0xC001#16 && t.cycles == 4#32) = true := by decide

/-- V60: DEC (HL). -/
theorem test_V60_dec_hl :
    after (load 0xC100 [0x00#8] (code 0xC000 [0x35#8] { base with h := 0xC1#8, l := 0x00#8 })) (fun t =>
      t.f == 0x60#8 && t.pc == 0xC001#16 && has t 0xC100#16 0xFF#8 && t.cycles == 12#32) = true := by decide

/-- V65: CPL. -/
theorem test_V65_cpl :
    after (code 0xC000 [0x2F#8] { base with a := 0x35#8 }) (fun t =>
      t.a == 0xCA#8 && t.f == 0x60#8 && t.pc == 0xC001#16 && t.cycles == 4#32) = true := by decide

/-- V66: SCF. -/
theorem test_V66_scf :
    after (code 0xC000 [0x37#8] { base with f := 0xE0#8 }) (fun t =>
      t.f == 0x90#8 && t.pc == 0xC001#16 && t.cycles == 4#32) = true := by decide

/-- V67: CCF. -/
theorem test_V67_ccf :
    after (code 0xC000 [0x3F#8] { base with f := 0x70#8 }) (fun t =>
      t.f == 0x00#8 && t.pc == 0xC001#16 && t.cycles == 4#32) = true := by decide

/-- V69: INC BC wraps. -/
theorem test_V69_inc_bc_wraps :
    after (code 0xC000 [0x03#8] { base with b := 0xFF#8, c := 0xFF#8, f := 0x00#8 }) (fun t =>
      t.b == 0x00#8 && t.c == 0x00#8 && t.pc == 0xC001#16 && t.cycles == 8#32) = true := by decide

/-- V70: DEC SP wraps. -/
theorem test_V70_dec_sp_wraps :
    after (code 0xC000 [0x3B#8] { base with sp := 0x0000#16 }) (fun t =>
      t.sp == 0xFFFF#16 && t.pc == 0xC001#16 && t.cycles == 8#32) = true := by decide

/-- V71: ADD HL,BC. -/
theorem test_V71_add_hl_bc :
    after (code 0xC000 [0x09#8] { base with h := 0x8A#8, l := 0x23#8, b := 0x06#8, c := 0x05#8, f := 0x80#8 }) (fun t =>
      t.f == 0xA0#8 && t.h == 0x90#8 && t.l == 0x28#8 && t.pc == 0xC001#16 && t.cycles == 8#32) = true := by decide

/-- V74: ADD SP,e8 +8. -/
theorem test_V74_add_sp_e8_8 :
    after (code 0xC000 [0xE8#8, 0x08#8] { base with sp := 0xFFF8#16 }) (fun t =>
      t.f == 0x30#8 && t.sp == 0x0000#16 && t.pc == 0xC002#16 && t.cycles == 16#32) = true := by decide

/-- V78: LD HL,SP+e8. -/
theorem test_V78_ld_hl_sp_e8 :
    after (code 0xC000 [0xF8#8, 0x02#8] { base with sp := 0xFFF8#16, f := 0xF0#8 }) (fun t =>
      t.f == 0x00#8 && t.h == 0xFF#8 && t.l == 0xFA#8 && t.pc == 0xC002#16 && t.cycles == 12#32) = true := by decide

/-- V80: RLCA. -/
theorem test_V80_rlca :
    after (code 0xC000 [0x07#8] { base with a := 0x85#8 }) (fun t =>
      t.a == 0x0B#8 && t.f == 0x10#8 && t.pc == 0xC001#16 && t.cycles == 4#32) = true := by decide

/-- V84: RRA. -/
theorem test_V84_rra :
    after (code 0xC000 [0x1F#8] { base with a := 0x81#8, f := 0x00#8 }) (fun t =>
      t.a == 0x40#8 && t.f == 0x10#8 && t.pc == 0xC001#16 && t.cycles == 4#32) = true := by decide

/-- V86: RLC (HL). -/
theorem test_V86_rlc_hl :
    after (load 0xC100 [0x00#8] (code 0xC000 [0xCB#8, 0x06#8] { base with h := 0xC1#8, l := 0x00#8 })) (fun t =>
      t.f == 0x80#8 && t.pc == 0xC002#16 && has t 0xC100#16 0x00#8 && t.cycles == 16#32) = true := by decide

/-- V88: RL L. -/
theorem test_V88_rl_l :
    after (code 0xC000 [0xCB#8, 0x15#8] { base with l := 0x80#8, f := 0x00#8 }) (fun t =>
      t.f == 0x90#8 && t.l == 0x00#8 && t.pc == 0xC002#16 && t.cycles == 8#32) = true := by decide

/-- V90: RR (HL) with carry. -/
theorem test_V90_rr_hl_with_carry :
    after (load 0xC100 [0x02#8] (code 0xC000 [0xCB#8, 0x1E#8] { base with h := 0xC1#8, l := 0x00#8, f := 0x10#8 })) (fun t =>
      t.f == 0x00#8 && t.pc == 0xC002#16 && has t 0xC100#16 0x81#8 && t.cycles == 16#32) = true := by decide

/-- V92: SRA A. -/
theorem test_V92_sra_a :
    after (code 0xC000 [0xCB#8, 0x2F#8] { base with a := 0x8A#8 }) (fun t =>
      t.a == 0xC5#8 && t.pc == 0xC002#16 && t.cycles == 8#32) = true := by decide

/-- V94: SWAP A. -/
theorem test_V94_swap_a :
    after (code 0xC000 [0xCB#8, 0x37#8] { base with a := 0xF0#8, f := 0x10#8 }) (fun t =>
      t.a == 0x0F#8 && t.f == 0x00#8 && t.pc == 0xC002#16 && t.cycles == 8#32) = true := by decide

/-- V97: SRL H. -/
theorem test_V97_srl_h :
    after (code 0xC000 [0xCB#8, 0x3C#8] { base with h := 0xFF#8 }) (fun t =>
      t.f == 0x10#8 && t.h == 0x7F#8 && t.pc == 0xC002#16 && t.cycles == 8#32) = true := by decide

/-- V98: BIT 7,A set. -/
theorem test_V98_bit_7_a_set :
    after (code 0xC000 [0xCB#8, 0x7F#8] { base with a := 0x80#8, f := 0x10#8 }) (fun t =>
      t.f == 0x30#8 && t.pc == 0xC002#16 && t.cycles == 8#32) = true := by decide

/-- V100: BIT 3,(HL). -/
theorem test_V100_bit_3_hl :
    after (load 0xC100 [0x08#8] (code 0xC000 [0xCB#8, 0x5E#8] { base with h := 0xC1#8, l := 0x00#8, f := 0x00#8 })) (fun t =>
      t.f == 0x20#8 && t.pc == 0xC002#16 && t.cycles == 12#32) = true := by decide

/-- V102: RES 7,(HL). -/
theorem test_V102_res_7_hl :
    after (load 0xC100 [0x80#8] (code 0xC000 [0xCB#8, 0xBE#8] { base with h := 0xC1#8, l := 0x00#8 })) (fun t =>
      t.pc == 0xC002#16 && has t 0xC100#16 0x00#8 && t.cycles == 16#32) = true := by decide

/-- V103: SET 1,E. -/
theorem test_V103_set_1_e :
    after (code 0xC000 [0xCB#8, 0xCB#8] { base with e := 0x00#8 }) (fun t =>
      t.e == 0x02#8 && t.pc == 0xC002#16 && t.cycles == 8#32) = true := by decide

/-- V106: HALT, nothing pending. -/
theorem test_V106_halt_nothing_pending :
    after (code 0xC000 [0x76#8] { base with ime := false, ie := 0x01#8, iflag := 0x00#5 }) (fun t =>
      t.pc == 0xC001#16 && t.run == .halted && t.cycles == 4#32) = true := by decide

/-- V112: STOP. -/
theorem test_V112_stop :
    after (code 0xC000 [0x10#8, 0x00#8] base) (fun t =>
      t.pc == 0xC002#16 && t.run == .stopped && t.cycles == 4#32) = true := by decide

/-- V115: DI. -/
theorem test_V115_di :
    after (code 0xC000 [0xF3#8] { base with ime := true }) (fun t =>
      t.pc == 0xC001#16 && t.ime == false && t.cycles == 4#32) = true := by decide

/-- V116: EI. -/
theorem test_V116_ei :
    after (code 0xC000 [0xFB#8] { base with ime := false }) (fun t =>
      t.pc == 0xC001#16 && t.eiPending == true && t.cycles == 4#32) = true := by decide

/-- V122: JP NZ not taken. -/
theorem test_V122_jp_nz_not_taken :
    after (code 0xC000 [0xC2#8, 0x00#8, 0x20#8] { base with f := 0x80#8 }) (fun t =>
      t.pc == 0xC003#16 && t.cycles == 12#32) = true := by decide

/-- V123: JP C taken. -/
theorem test_V123_jp_c_taken :
    after (code 0xC000 [0xDA#8, 0x00#8, 0x20#8] { base with f := 0x10#8 }) (fun t =>
      t.pc == 0x2000#16 && t.cycles == 16#32) = true := by decide

/-- V124: JP HL. -/
theorem test_V124_jp_hl :
    after (code 0xC000 [0xE9#8] { base with h := 0xC2#8, l := 0x00#8 }) (fun t =>
      t.pc == 0xC200#16 && t.cycles == 4#32) = true := by decide

/-- V127: JR wraps. -/
theorem test_V127_jr_wraps :
    after (code 0xFFFD [0x18#8, 0x05#8] base) (fun t =>
      t.pc == 0x0004#16 && t.cycles == 12#32) = true := by decide

/-- V129: JR NC not taken. -/
theorem test_V129_jr_nc_not_taken :
    after (code 0xC010 [0x30#8, 0xFA#8] { base with f := 0x10#8 }) (fun t =>
      t.pc == 0xC012#16 && t.cycles == 8#32) = true := by decide

/-- V130: CALL a16. -/
theorem test_V130_call_a16 :
    after (code 0xC200 [0xCD#8, 0x34#8, 0x12#8] { base with sp := 0xFFFE#16 }) (fun t =>
      t.sp == 0xFFFC#16 && t.pc == 0x1234#16 && has t 0xFFFD#16 0xC2#8 && has t 0xFFFC#16 0x03#8 && t.cycles == 24#32) = true := by decide

/-- V132: CALL NC taken. -/
theorem test_V132_call_nc_taken :
    after (code 0xC200 [0xD4#8, 0x00#8, 0xC3#8] { base with sp := 0xFFFE#16, f := 0x00#8 }) (fun t =>
      t.sp == 0xFFFC#16 && t.pc == 0xC300#16 && has t 0xFFFD#16 0xC2#8 && has t 0xFFFC#16 0x03#8 && t.cycles == 24#32) = true := by decide

/-- V134: RET Z taken. -/
theorem test_V134_ret_z_taken :
    after (load 0xFFFC [0x03#8, 0xC2#8] (code 0xC000 [0xC8#8] { base with sp := 0xFFFC#16, f := 0x80#8 })) (fun t =>
      t.sp == 0xFFFE#16 && t.pc == 0xC203#16 && t.cycles == 20#32) = true := by decide

/-- V136: RETI. -/
theorem test_V136_reti :
    after (load 0xFFFC [0x50#8, 0xC1#8] (code 0xC000 [0xD9#8] { base with sp := 0xFFFC#16, ime := false })) (fun t =>
      t.sp == 0xFFFE#16 && t.pc == 0xC150#16 && t.ime == true && t.cycles == 16#32) = true := by decide

/-- V137: RST 0x28. -/
theorem test_V137_rst_0x28 :
    after (code 0xC300 [0xEF#8] { base with sp := 0xFFFE#16 }) (fun t =>
      t.sp == 0xFFFC#16 && t.pc == 0x0028#16 && has t 0xFFFD#16 0xC3#8 && has t 0xFFFC#16 0x01#8 && t.cycles == 16#32) = true := by decide

/-- V140: priority: Timer over Serial. -/
theorem test_V140_priority_timer_over_serial :
    after (code 0xC000 [0x00#8] { base with ime := true, ie := 0x1C#8, iflag := 0x1E#5, sp := 0xFFFE#16 }) (fun t =>
      t.sp == 0xFFFC#16 && t.pc == 0x0050#16 && t.ime == false && t.iflag == 0x1A#5 && t.cycles == 20#32) = true := by decide

/-- V141: IE bits 7:5 ignored. -/
theorem test_V141_ie_bits_7_5_ignored :
    after (code 0xC000 [0x00#8] { base with ime := true, ie := 0xE0#8, iflag := 0x1F#5 }) (fun t =>
      t.pc == 0xC001#16 && t.cycles == 4#32) = true := by decide

/-- V144: dispatch push onto IE. -/
theorem test_V144_dispatch_push_onto_ie :
    after (code 0xC000 [0x00#8] { base with ime := true, ie := 0x01#8, iflag := 0x01#5, sp := 0x0000#16 }) (fun t =>
      t.sp == 0xFFFE#16 && t.pc == 0x0040#16 && t.ime == false && t.ie == 0xC0#8 && t.iflag == 0x00#5 && has t 0xFFFE#16 0x00#8 && t.cycles == 20#32) = true := by decide

/-- V151: 0xFC locks (§8). -/
theorem test_V151_0xfc_locks_8 :
    after (code 0xC000 [0xFC#8] base) (fun t =>
      t.pc == 0xC001#16 && t.locked == true && t.cycles == 4#32) = true := by decide

/-- V61, its second step: DAA after 0x45 + 0x38. -/
theorem test_V61_daa :
    after (code 0xC000 [0x27#8] { base with a := 0x7D#8 }) (fun t => t.a == 0x83#8 && t.f == 0x00#8) = true := by decide

/-- V63, its second step: DAA after 0x83 - 0x38 (N and H set). -/
theorem test_V63_daa :
    after (code 0xC000 [0x27#8] { base with a := 0x4B#8, f := 0x60#8 }) (fun t => t.a == 0x45#8 && t.f == 0x40#8) = true := by
  decide

/-- V111, its second step: the HALT bug reads the prefix byte twice, so SET 1,E runs. -/
theorem test_V111_halt_bug_prefix :
    after (code 0xC001 [0xCB#8, 0x37#8] { base with haltBug := true, e := 0x00#8 }) (fun t =>
      t.e == 0x02#8 && t.pc == 0xC002#16 && t.cycles == 8#32) = true := by decide

/-- V120, its third step: the dispatch after EI and HALT pushes the address of the HALT. -/
theorem test_V120_dispatch_halt_bug :
    after { base with haltBug := true, ime := true, ie := 0x01#8, iflag := 0x01#5, pc := 0xC002#16 } (fun t =>
      t.pc == 0x0040#16 && has t 0xFFFD#16 0xC0#8 && has t 0xFFFC#16 0x01#8 && !t.haltBug) = true := by decide

/-- V152, its second step: a locked core does nothing. -/
theorem test_V152_locked :
    after (code 0xC001 [0x3C#8] { base with locked := true }) (fun t =>
      t.a == 0x01#8 && t.pc == 0xC001#16 && t.cycles == 4#32) = true := by decide

/-- A byte read from a loaded external address is that byte, and the access is in the port's history (log 5). -/
theorem test_external_fetch :
    after (State.reset.withFetchWord 8 0x3C) (fun t => t.a == 0x02#8 && t.pc == 0x0101#16 &&
      t.port == [.elapsed 4#32, .read 0x0100#16 0x3C#8]) = true := by decide

/-- Parameters other than the chosen ones, each different (R9). -/
def otherParams : Params :=
  { openBus := 0x12#8, ifUnusedBits := 0b010#3, stopLength := .one, idleCycles := 8#32, lockedCycles := 16#32
    ramFill := 0xA5#8 }

/-- The bus reads OPEN_BUS, IF_UNUSED_BITS and RAM_FILL from the parameters (R9, R41, R65, R620). -/
theorem test_parameters_bus :
    peek 0xFEA0#16 (State.resetIn otherParams true) = some 0x12#8 ∧
    peek 0xFF0F#16 (State.resetIn otherParams true) = some 0x41#8 ∧
    peek 0xC000#16 (State.resetIn otherParams true) = some 0xA5#8 := by decide

/-- STOP_LENGTH = 1: STOP leaves PC at the byte after its opcode; the next step is idle, and a locked one returns
LOCKED_CYCLES (R9, R531, R560, R579). -/
theorem test_parameters_step :
    after (code 0xC000 [0x10#8] (State.resetIn otherParams true)) (fun t =>
      t.run == .stopped && t.pc == 0xC001#16 && t.cycles == 4#32 && after t (fun u => u.cycles == 8#32)) = true ∧
    after (code 0xC000 [0xD3#8] (State.resetIn otherParams true)) (fun t =>
      t.locked && t.cycles == 16#32 && after t (fun u => u.cycles == 16#32)) = true := by decide

/-- A write of RAM_FILL lists no cell, whatever RAM_FILL is. -/
theorem test_parameters_fill :
    (busWrite 0xC000#16 0xA5#8 (State.resetIn otherParams true)).mem = [] ∧
    (busWrite 0xE000#16 0x00#8 (State.resetIn otherParams true)).mem = [(0xC000, 0x00#8)] := by decide

/-! ## Witnesses -/

/-- A state about to execute `bs` in work RAM. -/
def running (bs : List Byte) : State := code 0xC000 bs base

theorem test_witness_DecodeOfEncodeIsTheInstruction : Instr.wf .one (.jpA16 0x1234#16) = true ∧ Instr.wf .one (.stop none) = true ∧
      Instr.wf .two (.stop (some 0xD3#8)) = true := ⟨rfl, rfl, rfl⟩

theorem test_witness_EveryDecodingEncodesToTheSameBytes :
    decode .two [0xC3#8, 0x34#8, 0x12#8, 0x99#8] = .ok (.jpA16 0x1234#16, [0x99#8]) ∧
    decode .one [0x10#8, 0x99#8] = .ok (.stop none, [0x99#8]) := ⟨rfl, rfl⟩

theorem test_witness_LengthFollowsFromTheFirstByte :
    (instrLength .two 0x76#8 = 1 ∧ instrLength .two 0x10#8 = 2 ∧ instrLength .one 0x10#8 = 1 ∧
      instrLength .two 0xCD#8 = 3 ∧ instrLength .two 0xFD#8 = 1) ∧
    Instr.wf .two (.ldAD8 0x05#8) = true ∧ Instr.wf .one (.stop none) = true ∧
      ∃ b, Instr.prefixCb 0x37#8 = .prefixCb b := ⟨by decide, rfl, rfl, _, rfl⟩

theorem test_witness_ResetLeavesTheTabledState :
    let s := { base with locked := true }
    s.locked = true ∧ ∃ u, transact (.reset true) s = .next u ∧ u.locked = false := ⟨rfl, _, rfl, rfl⟩

/-- Both ends of each range of the address map. -/
theorem test_witness_TheBusFollowsTheAddressMap :
    isExternal 0x0000#16 ∧ isExternal 0xBFFF#16 ∧ isExternal 0xFE00#16 ∧ isExternal 0xFE9F#16 ∧
    isExternal 0xFF00#16 ∧ isExternal 0xFF0E#16 ∧ isExternal 0xFF10#16 ∧ isExternal 0xFF7F#16 ∧
    isRam 0xC000#16 ∧ isRam 0xFDFF#16 ∧ isRam 0xFF80#16 ∧ isRam 0xFFFE#16 :=
  ⟨by decide, by decide, by decide, by decide, by decide, by decide, by decide, by decide, by decide, by decide,
    by decide, by decide⟩

/-- Every address falls under exactly one clause of the address map. -/
theorem test_address_map_clauses_exclude (a : Word) :
    (isExternal a ∨ isRam a ∨ (0xFEA0 ≤ a.toNat ∧ a.toNat ≤ 0xFEFF) ∨ a = 0xFF0F#16 ∨ a = 0xFFFF#16) ∧
    ¬(isExternal a ∧ isRam a) ∧ (isExternal a ∨ isRam a → ¬(0xFEA0 ≤ a.toNat ∧ a.toNat ≤ 0xFEFF)) ∧
    ¬isExternal 0xFF0F#16 ∧ ¬isRam 0xFF0F#16 ∧ ¬isExternal 0xFFFF#16 ∧ ¬isRam 0xFFFF#16 := by
  have h1 : a = 0xFF0F#16 ↔ a.toNat = 0xFF0F := by rw [← BitVec.toNat_inj]; rfl
  have h2 : a = 0xFFFF#16 ↔ a.toNat = 0xFFFF := by rw [← BitVec.toNat_inj]; rfl
  have := a.isLt
  simp only [isExternal, isRam, h1, h2]
  refine ⟨by omega, by omega, by omega, by decide, by decide, by decide, by decide⟩

theorem test_witness_RamReturnsTheLastByteWritten :
    isRam 0xDDFF#16 ∧ location 0xFDFF#16 = location 0xDDFF#16 ∧ isRam 0xFFFE#16 ∧
    location 0xFFFF#16 ≠ location 0xFFFE#16 := by
  decide

theorem test_witness_TheEchoMirrorsWorkRam :
    (0xC000 ≤ (0xC000#16).toNat ∧ (0xC000#16).toNat ≤ 0xDDFF) ∧ (0xC000 ≤ (0xDDFF#16).toNat ∧ (0xDDFF#16).toNat ≤ 0xDDFF) ∧
    (0xE000 ≤ (0xE000#16).toNat ∧ (0xE000#16).toNat ≤ 0xFDFF) ∧ (0xE000 ≤ (0xFDFF#16).toNat ∧ (0xFDFF#16).toNat ≤ 0xFDFF) ∧
    (0xDE00 ≤ (0xDE00#16).toNat ∧ (0xDE00#16).toNat ≤ 0xDFFF) ∧ (0xDE00 ≤ (0xDFFF#16).toNat ∧ (0xDFFF#16).toNat ≤ 0xDFFF) := by
  decide

theorem test_witness_RomWritesChangeNoBlockState : (0x7FFF#16).toNat ≤ 0x7FFF := by decide

/-- An instruction in work RAM, with an EI pending. -/
theorem test_witness_AStepRunsTheDecodedInstruction :
    let s := { running [0x3E#8, 0x05#8] with eiPending := true }
    let i := Instr.ldAD8 0x05#8
    i.wf s.params.stopLength = true ∧ executes s ∧ s.haltBug = false ∧
      ∀ k (hk : k < (encode i).length), byteAt (s.pc + BitVec.ofNat 16 k) s = some ((encode i)[k]) :=
  ⟨rfl, ⟨rfl, rfl, .inl rfl⟩, rfl, by decide⟩

/-- An instruction at the reset PC, loaded behind the external port. -/
theorem test_witness_AStepRunsTheDecodedInstruction_external :
    let s := State.reset.withFetchWord 24 0x1234C3
    let i := Instr.jpA16 0x1234#16
    i.wf s.params.stopLength = true ∧ executes s ∧ s.haltBug = false ∧
      ∀ k (hk : k < (encode i).length), byteAt (s.pc + BitVec.ofNat 16 k) s = some ((encode i)[k]) :=
  ⟨rfl, ⟨by decide, by decide, .inl (by decide)⟩, by decide, by decide⟩

/-- One-, two- and three-byte opcodes under the HALT bug, and a fetch without it. -/
theorem test_witness_TheHaltBugReadsOneByteTwice :
    (let s := { running [0x3C#8, 0x00#8] with haltBug := true };
      s.haltBug = true ∧ peek s.pc s = some 0x3C#8 ∧ peek (s.pc + 1) s = some 0x00#8) ∧
    (let s := { running [0xCB#8, 0x37#8] with haltBug := true };
      s.haltBug = true ∧ peek s.pc s = some 0xCB#8 ∧ peek (s.pc + 1) s = some 0x37#8) ∧
    (let s := { running [0xC3#8, 0x37#8] with haltBug := true };
      s.haltBug = true ∧ peek s.pc s = some 0xC3#8 ∧ peek (s.pc + 1) s = some 0x37#8) ∧
    (running [0x3C#8]).haltBug = false := by decide

theorem test_witness_IdleStepsFetchNothing :
    (let s := { base with run := .halted };
      s.locked = false ∧ s.run = .halted ∧ s.pending = 0#5) ∧
    (let s := { base with run := .stopped, ie := 0xFF#8 };
      s.locked = false ∧ s.run = .stopped) := by decide

/-- Halted with IME 1, and with IME 0 before a NOP. -/
theorem test_witness_APendingInterruptWakesAHaltedCore :
    (let s := { base with run := .halted, ie := 0x01#8, ime := true };
      s.run = .halted ∧ s.pending ≠ 0#5 ∧ s.locked = false ∧ s.ime = true) ∧
    (let s := { running [0x00#8] with run := .halted, ie := 0x01#8 };
      s.run = .halted ∧ s.pending ≠ 0#5 ∧ s.locked = false ∧ s.ime = false ∧ (fetchInstr s).instr = .nop ∧
        s.eiPending = false) := by decide

/-- The highest and the lowest priority, the latter with every other source requested and not enabled. -/
theorem test_witness_InterruptDispatch :
    (let s := { base with run := .halted, ime := true, ie := 0x1F#8, iflag := 0x1F#5 };
      s.locked = false ∧ s.run ≠ .stopped ∧ s.ime = true ∧
        ∀ j : Fin 5, j ≤ 0 → (s.ie.getLsbD j && s.iflag.getLsbD j) = decide (j = 0)) ∧
    (let s := { base with ime := true, ie := 0x10#8, iflag := 0x1F#5, haltBug := true };
      s.locked = false ∧ s.run ≠ .stopped ∧ s.ime = true ∧
        ∀ j : Fin 5, j ≤ 4 → (s.ie.getLsbD j && s.iflag.getLsbD j) = decide (j = 4)) := by decide

theorem test_witness_DispatchThenRetiResumesTheProgram :
    let s := { base with ime := true, ie := 0x01#8 }
    s.locked = false ∧ s.run ≠ .stopped ∧ s.ime = true ∧ s.pending ≠ 0#5 ∧ s.haltBug = false ∧
      isRam (s.sp - 1) ∧ isRam (s.sp - 2) := by
  decide

theorem test_witness_ARequestedInterruptIsDispatchedAtTheNextStep :
    let s := { base with ime := true, ie := 0x10#8, run := .halted }
    s.locked = false ∧ s.run ≠ .stopped ∧ s.ime = true ∧ s.ie.getLsbD InterruptSource.joypad.code = true ∧
      s.pending = 0#5 ∧ isRam (s.sp - 1) ∧ isRam (s.sp - 2) := by
  decide

theorem test_witness_HostSignalsActOnlyAsStated :
    5 ≤ 5 ∧ ({ base with run := .stopped } : State).run = .stopped ∧
      ({ base with run := .halted } : State).run ≠ .stopped := by decide

/-- Before an ordinary instruction, DI, EI, an illegal opcode, and HALT in both its cases. -/
theorem test_witness_TheDelayedEnableTakesEffectOneInstructionLater :
    (∀ op ∈ [0x00#8, 0xF3#8, 0xFB#8, 0xD3#8, 0x76#8],
      executes { running [op] with eiPending := true } ∧ ({ running [op] with eiPending := true } : State).eiPending = true) ∧
    (fetchInstr (running [0xF3#8])).instr = .di ∧ (fetchInstr (running [0xFB#8])).instr = .ei ∧
    isIllegal (fetchInstr (running [0xD3#8])).instr = true ∧ (fetchInstr (running [0x76#8])).instr = .halt ∧
    ({ running [0x76#8] with ie := 0x01#8 } : State).pending ≠ 0#5 ∧ (running [0x76#8]).pending = 0#5 := by
  decide

theorem test_witness_ALockedCoreStaysAsItIs : ({ base with locked := true } : State).locked = true := rfl

/-- A state of the invariant with an EI pending, and one with the HALT bug armed; both take a step. -/
theorem test_witness_EveryStepKeepsTheInvariant :
    (∃ t, { running [0x76#8] with eiPending := true }.Inv ∧ step { running [0x76#8] with eiPending := true } = .next t) ∧
    (∃ t, { running [0x3C#8] with haltBug := true }.Inv ∧ step { running [0x3C#8] with haltBug := true } = .next t) :=
  ⟨⟨_, ⟨by decide, by decide, by decide, by decide, by decide⟩, rfl⟩,
    ⟨_, ⟨by decide, by decide, by decide, by decide, by decide⟩, rfl⟩⟩

theorem test_witness_EveryRunOfTransactionsKeepsTheInvariant :
    ∃ t, (running [0x76#8]).Inv ∧
      runTransactions [.step, .request 2, .step, .wakeStop, .reset false] (running [0x76#8]) = .next t :=
  ⟨_, ⟨by decide, by decide, by decide, by decide, by decide⟩, rfl⟩

/-- A stopped state, a halted one, and steps that end halted and stopped. -/
theorem test_witness_TheRunStateChangesOnlyAsTabled :
    (∃ t, step { base with run := .stopped } = .next t) ∧
    (∃ t, step { base with run := .halted } = .next t ∧ ({ base with run := .halted } : State).pending = 0#5) ∧
    (∃ t, step (running [0x76#8]) = .next t ∧ t.run = .halted) ∧
    (∃ t, step (running [0x10#8]) = .next t ∧ t.run = .stopped) :=
  ⟨⟨_, rfl⟩, ⟨_, rfl, by decide⟩, ⟨_, rfl, rfl⟩, ⟨_, rfl, rfl⟩⟩

/-- Each byte of the instruction the next step fetches is the block's own or one the collaborators are loaded
with. -/
def bytesKnown (s : State) : Bool :=
  (List.range (encode (fetchInstr s).instr).length).all (fun k => (byteAt (s.pc + BitVec.ofNat 16 k) s).isSome)

theorem bytesKnown_spec {s : State} (h : bytesKnown s = true) :
    ∀ k, k < (encode (fetchInstr s).instr).length → (byteAt (s.pc + BitVec.ofNat 16 k) s).isSome = true := by
  simpa [bytesKnown] using h

/-- Both forms of the jump to itself; one with an EI pending and no source enabled; one that wakes a HALTED core
with IME 0; one behind the external port, as loaded. -/
theorem test_witness_ASelfLoopIsTheEndOfARun :
    (∀ s ∈ [running [0x18#8, 0xFE#8], running [0xC3#8, 0x00#8, 0xC0#8],
        { running [0x18#8, 0xFE#8] with eiPending := true },
        { running [0x18#8, 0xFE#8] with run := .halted, ie := 0x01#8 },
        State.reset.withFetchWord 16 0xFE18],
      s.atSelfLoop = true ∧ s.haltBug = false ∧
        ∀ k, k < (encode (fetchInstr s).instr).length → (byteAt (s.pc + BitVec.ofNat 16 k) s).isSome = true) := by
  have h : ∀ s ∈ [running [0x18#8, 0xFE#8], running [0xC3#8, 0x00#8, 0xC0#8],
      { running [0x18#8, 0xFE#8] with eiPending := true },
      { running [0x18#8, 0xFE#8] with run := .halted, ie := 0x01#8 },
      State.reset.withFetchWord 16 0xFE18], s.atSelfLoop = true ∧ s.haltBug = false ∧ bytesKnown s = true := by
    decide
  exact fun s hs => ⟨(h s hs).1, (h s hs).2.1, bytesKnown_spec (h s hs).2.2⟩

/-- `JP a16` to its own address with the HALT bug armed, where its opcode is also the low byte of `a16`. -/
theorem test_self_loop_under_the_halt_bug :
    ({ code 0xC0C3 [0xC3#8, 0xC0#8] base with haltBug := true } : State).atSelfLoop = true := by decide

/-- Not at LOOP: a jump elsewhere, a source enabled while IME is 1 or becomes 1 with the jump's step, a HALTED
core that is not woken, a dispatch before the jump. -/
theorem test_self_loop_refuses :
    (running [0x18#8, 0xFD#8]).atSelfLoop = false ∧
    ({ running [0x18#8, 0xFE#8] with ime := true, ie := 0x02#8 } : State).atSelfLoop = false ∧
    ({ running [0x18#8, 0xFE#8] with eiPending := true, ie := 0x02#8 } : State).atSelfLoop = false ∧
    ({ running [0x18#8, 0xFE#8] with run := .halted } : State).atSelfLoop = false ∧
    ({ running [0x18#8, 0xFE#8] with ime := true, ie := 0x01#8 } : State).atSelfLoop = false := by decide

theorem test_witness_LoadRegisterFromRegister :
    ¬(R8.ind = R8.ind ∧ R8.a = R8.ind) ∧ ¬(R8.a = R8.ind ∧ R8.ind = R8.ind) ∧ ¬(R8.b = R8.ind ∧ R8.b = R8.ind) := by decide

theorem test_witness_PushAndPop :
    base.f &&& 0x0F#8 = 0#8 ∧ isRam (base.sp - 1) ∧ isRam (base.sp - 2) := by
  decide

theorem test_witness_DecimalAdjustGivesThePackedSum :
    let s := { base with a := 0x99#8 }
    s.a.toNat / 16 ≤ 9 ∧ s.a.toNat % 16 ≤ 9 ∧ (0x99#8).toNat / 16 ≤ 9 ∧ (0x99#8).toNat % 16 ≤ 9 := by decide

/-- For each bit the byte that RES and the byte that SET leave. -/
theorem test_witness_BitResetAndSetChangeOneBit :
    (∀ j : Fin 8, (0x7F#8).getLsbD j = ((0xFF#8).getLsbD j && decide (j ≠ 7))) ∧
    (∀ j : Fin 8, (0x01#8).getLsbD j = ((0x00#8).getLsbD j || decide (j = 0))) := by decide

/-- An illegal opcode in work RAM, with and without the HALT bug. -/
theorem test_witness_IllegalOpcodesLockTheCore :
    (let s := { running [0xFC#8] with eiPending := true };
      (Instr.illegalFC, 0xFC#8) ∈ illegalTable ∧ executes s ∧ peek s.pc s = some 0xFC#8) ∧
    (let s := { running [0xD3#8] with haltBug := true };
      (Instr.illegalD3, 0xD3#8) ∈ illegalTable ∧ executes s ∧ peek s.pc s = some 0xD3#8) := by
  decide

/-- A store next to the byte it leaves, and a form that stores nothing. -/
theorem test_witness_StoresReachOnlyTheirAddress :
    let s := { base with h := 0xC0#8, l := 0x00#8 }
    (∃ t, exec .ldIndHlA s = .next t) ∧ (∀ w ∈ storesTo .ldIndHlA s, location w ≠ location 0xC001#16) ∧
    (∃ t, exec .cpIndHl s = .next t) ∧ (∀ w ∈ storesTo .cpIndHl s, location w ≠ location 0xC000#16) := by
  have h : location 0xC000#16 ≠ location 0xC001#16 := by decide
  refine ⟨⟨_, rfl⟩, ?_, ⟨_, rfl⟩, ?_⟩
  · simpa [storesTo, opcode, encode, State.hl, mk16] using h
  · simp [storesTo, opcode, encode]

theorem test_witness_OnlyTheNamedInstructionsWriteTheSpecialState :
    let s := { base with h := 0xC0#8, l := 0x00#8 }
    (∃ t, exec .ldIndHlA s = .next t) ∧ writesF .ldIndHlA = false ∧ writesSp .ldIndHlA = false ∧
      writesPc .ldIndHlA = false ∧ isIllegal .ldIndHlA = false ∧ 0xFFFF#16 ∉ storesTo .ldIndHlA s ∧
      0xFF0F#16 ∉ storesTo .ldIndHlA s :=
  ⟨⟨_, rfl⟩, rfl, rfl, rfl, by decide, by decide, by decide⟩

/-- A load from work RAM makes no port access. -/
theorem test_witness_OnlyPortRepliesReachTheBlock :
    let s := { base with h := 0xC0#8, l := 0x00#8 }
    ∃ t, exec .ldAIndHl s = .next t ∧ t.port = s.port := ⟨_, rfl, rfl⟩


/-- A run with a step of each kind of transaction, with parameters other than the chosen ones. -/
theorem test_witness_NoTransactionChangesTheParameters :
    ∃ t, runTransactions [.step, .request 2, .wakeStop, .reset false]
      (code 0xC000 [0x10#8] (State.resetIn otherParams true)) = .next t := ⟨_, rfl⟩

/-- A step that returns IDLE_CYCLES and one that returns LOCKED_CYCLES, and the chosen parameters at reset. -/
theorem test_witness_EveryStepCompletesWithACount :
    (∃ t, step { State.resetIn otherParams true with run := .stopped } = .next t ∧ t.cycles = 8#32) ∧
    (∃ t, step { State.resetIn otherParams true with locked := true } = .next t ∧ t.cycles = 16#32) ∧
    base.params = Params.chosen := ⟨⟨_, rfl, rfl⟩, ⟨_, rfl, rfl⟩, rfl⟩

end Sys2Proof.Tests
end

/-! # The address map (R61)

O8: the statements' ranges are the regions of `regionOf`, and each region's read and write is one equation. -/

namespace Sys2Proof.Machine

open Stated

variable {a : Word}

theorem regionOf_of_isExternal (h : isExternal a) : regionOf a = .external := by
  unfold isExternal at h
  simp only [regionOf]
  repeat' split
  all_goals try omega
  all_goals rfl

theorem regionOf_of_isRam (h : isRam a) : regionOf a = .ram (location a) := by
  unfold isRam at h
  simp only [regionOf, location]
  repeat' split
  all_goals try omega
  all_goals rfl

theorem regionOf_of_unused (h : 0xFEA0 ≤ a.toNat ∧ a.toNat ≤ 0xFEFF) : regionOf a = .unused := by
  simp only [regionOf]
  repeat' split
  all_goals try omega
  all_goals rfl

theorem regionOf_eq_ifReg_iff : regionOf a = .ifReg ↔ a = 0xFF0F#16 := by
  refine ⟨fun h => BitVec.eq_of_toNat_eq ?_, by rintro rfl; rfl⟩
  simp only [regionOf] at h
  split_ifs at h
  assumption

theorem regionOf_eq_ieReg_iff : regionOf a = .ieReg ↔ a = 0xFFFF#16 := by
  refine ⟨fun h => BitVec.eq_of_toNat_eq ?_, by rintro rfl; rfl⟩
  simp only [regionOf] at h
  split_ifs at h
  simp only [BitVec.toNat_ofNat]
  omega

variable (s : State) (v : Byte)

theorem busWrite_of_external (h : regionOf a = .external) : busWrite a v s = extWrite a v s := by
  simp [busWrite, h]

theorem extWrite_find_ne {n : Nat} (h : n ≠ a.toNat) :
    Memory.find (extWrite a v s).mem n = Memory.find s.mem n := by
  unfold extWrite
  dsimp only
  split
  · rfl
  · exact Memory.find_remove_ne h

theorem busRead_of_ram {n : Nat} (h : regionOf a = .ram n) :
    busRead a s = (Memory.ram s.params.ramFill s.mem n, s) := by
  simp [busRead, peek, h]

theorem busWrite_of_ram {n : Nat} (h : regionOf a = .ram n) :
    busWrite a v s = { s with mem := Memory.store s.params.ramFill s.mem n v } := by
  simp [busWrite, h]

theorem busRead_of_unused (h : regionOf a = .unused) : busRead a s = (s.params.openBus, s) := by
  simp [busRead, peek, h]

theorem busWrite_of_unused (h : regionOf a = .unused) : busWrite a v s = s := by
  simp [busWrite, h]

end Sys2Proof.Machine

namespace Sys2Proof.Proofs

open Machine

/-- Settles O8: one region of the address map at a time. -/
theorem theBusFollowsTheAddressMap : Obligations.TheBusFollowsTheAddressMap := by
  intro a v s
  refine ⟨fun h => ?external, fun h => ?ram, fun h => ?unused, fun h => ?ifReg, fun h => ?ieReg⟩
  case external =>
    have hr := regionOf_of_isExternal h
    exact ⟨⟨_, busRead_of_external s hr⟩, _, busWrite_of_external s v hr, fun n hn => extWrite_find_ne s v hn⟩
  case ram =>
    have hr := regionOf_of_isRam h
    exact ⟨busRead_of_ram s hr, busWrite_of_ram s v hr⟩
  case unused =>
    have hr := regionOf_of_unused h
    exact ⟨busRead_of_unused s hr, busWrite_of_unused s v hr⟩
  case ifReg =>
    subst h
    exact ⟨rfl, rfl⟩
  case ieReg =>
    subst h
    exact ⟨rfl, rfl⟩

end Sys2Proof.Proofs

/-! # The families of the opcode tables

The decoder builds every instruction from the operand fields of its bytes (R102 to R106), so an instruction is one
of some sixty forms. `Instr.Form` lists them, `exec_…` says once what each form does; a statement over all
instructions is then a case split over the forms. -/

namespace Sys2Proof

open Machine Stated

/-- The forms of the decoder. Every instruction is one of these (`Instr.form`); the PREFIX CB row stands for the
CB-table entry its second byte selects (R535), so an induction over the forms has that entry's case for it. -/
inductive Instr.Form : Instr → Prop
  | ldR8R8 (y z : R8) (h : ¬(y = .ind ∧ z = .ind)) : Form (.ldR8R8 y z)
  | ldR8D8 (y : R8) (d8 : Byte) : Form (.ldR8D8 y d8)
  | ldAIndBc : Form .ldAIndBc
  | ldAIndDe : Form .ldAIndDe
  | ldAIndC : Form .ldAIndC
  | ldhAIndA8 (a8 : Byte) : Form (.ldhAIndA8 a8)
  | ldAIndA16 (a16 : Word) : Form (.ldAIndA16 a16)
  | ldAIndHlInc : Form .ldAIndHlInc
  | ldAIndHlDec : Form .ldAIndHlDec
  | ldIndBcA : Form .ldIndBcA
  | ldIndDeA : Form .ldIndDeA
  | ldIndCA : Form .ldIndCA
  | ldhIndA8A (a8 : Byte) : Form (.ldhIndA8A a8)
  | ldIndA16A (a16 : Word) : Form (.ldIndA16A a16)
  | ldIndHlIncA : Form .ldIndHlIncA
  | ldIndHlDecA : Form .ldIndHlDecA
  | ldRpD16 (p : Rp) (d16 : Word) : Form (.ldRpD16 p d16)
  | ldIndA16Sp (a16 : Word) : Form (.ldIndA16Sp a16)
  | ldSpHl : Form .ldSpHl
  | pushRp2 (p : Rp2) : Form (.pushRp2 p)
  | popRp2 (p : Rp2) : Form (.popRp2 p)
  | aluR8 (op : AluOp) (z : R8) : Form (.aluR8 op z)
  | aluD8 (op : AluOp) (d8 : Byte) : Form (.aluD8 op d8)
  | incR8 (y : R8) : Form (.incR8 y)
  | decR8 (y : R8) : Form (.decR8 y)
  | daa : Form .daa
  | cpl : Form .cpl
  | scf : Form .scf
  | ccf : Form .ccf
  | incRp (p : Rp) : Form (.incRp p)
  | decRp (p : Rp) : Form (.decRp p)
  | addHlRp (p : Rp) : Form (.addHlRp p)
  | addSpE8 (e8 : Byte) : Form (.addSpE8 e8)
  | ldHlSpE8 (e8 : Byte) : Form (.ldHlSpE8 e8)
  | rlca : Form .rlca
  | rrca : Form .rrca
  | rla : Form .rla
  | rra : Form .rra
  | rotR8 (op : RotOp) (z : R8) : Form (.rotR8 op z)
  | bitR8 (b : Fin 8) (z : R8) : Form (.bitR8 b z)
  | resR8 (b : Fin 8) (z : R8) : Form (.resR8 b z)
  | setR8 (b : Fin 8) (z : R8) : Form (.setR8 b z)
  | jpA16 (a16 : Word) : Form (.jpA16 a16)
  | jpHl : Form .jpHl
  | jpCc (cc : Cc) (a16 : Word) : Form (.jpCc cc a16)
  | jrE8 (e8 : Byte) : Form (.jrE8 e8)
  | jrCc (cc : Cc) (e8 : Byte) : Form (.jrCc cc e8)
  | callA16 (a16 : Word) : Form (.callA16 a16)
  | callCc (cc : Cc) (a16 : Word) : Form (.callCc cc a16)
  | rst (y : Fin 8) : Form (.rst y)
  | ret : Form .ret
  | retCc (cc : Cc) : Form (.retCc cc)
  | reti : Form .reti
  | nop : Form .nop
  | stop (ign : Option Byte) : Form (.stop ign)
  | halt : Form .halt
  | di : Form .di
  | ei : Form .ei
  | prefixCb (cbop : Byte) (h : Form (cbCell cbop)) : Form (.prefixCb cbop)
  | illegal (i : Instr) (h : isIllegal i = true) : Form i

/-- LD (HL),(HL) is not a form: its encoding is HALT's (R200). -/
theorem form_ldR8R8 (y z : R8) : (Instr.ldR8R8 y z).Form := by
  by_cases h : y = .ind ∧ z = .ind
  · obtain ⟨rfl, rfl⟩ := h
    exact .halt
  · exact .ldR8R8 y z h

theorem form_cbCell (cbop : Byte) : (cbCell cbop).Form := by
  unfold cbCell
  split <;> constructor

theorem form_decodeX0 (n : StopLength) (y z : Nat) (b1 : Byte) (w : Word) : (decodeX0 n y z b1 w).Form := by
  unfold decodeX0
  split <;> try split
  all_goals constructor

theorem form_decodeX3 (y z : Nat) (b1 : Byte) (w : Word) : (decodeX3 y z b1 w).Form := by
  unfold decodeX3
  split <;> constructor
  · exact form_cbCell b1
  all_goals rfl

theorem form_decodeInstr (n : StopLength) (op b1 b2 : Byte) : (decodeInstr n op b1 b2).Form := by
  unfold decodeInstr
  split
  · exact form_cbCell b1
  · unfold baseCell
    split
    · exact form_decodeX0 ..
    · exact form_ldR8R8 _ _
    · exact .aluR8 _ _
    · exact form_decodeX3 ..

/-- The bytes of a well-formed instruction decode to it (R102); a byte its format does not have is ignored. -/
theorem decodeInstr_encode {n : StopLength} {i : Instr} (h : i.wf n = true) :
    decodeInstr n ((encode i).getD 0 0#8) ((encode i).getD 1 0#8) ((encode i).getD 2 0#8) = i := by
  cases i
  case prefixCb => cases h
  case stop ign =>
    cases n <;> cases ign
    case one.some | two.none => cases h
    all_goals
      simp only [encode, List.getD_cons_zero, List.getD_cons_succ]
      rfl
  case ldBcD16 w | ldDeD16 w | ldHlD16 w | ldSpD16 w | ldIndA16Sp w | ldIndA16A w | ldAIndA16 w | jpA16 w | jpNzA16 w
      | jpZA16 w | jpNcA16 w | jpCA16 w | callA16 w | callNzA16 w | callZA16 w | callNcA16 w | callCA16 w =>
    simp only [encode, List.getD_cons_zero, List.getD_cons_succ]
    exact congrArg _ (mk16_hi8_lo8 w)
  all_goals
    simp only [encode, List.getD_cons_zero, List.getD_cons_succ, List.getD_nil]
    rfl

/-- A CB-table entry is encoded as 0xCB and its own byte (R111). -/
@[simp] theorem encode_cbCell (cbop : Byte) : encode (cbCell cbop) = [0xCB#8, cbop] := by
  revert cbop
  decide

@[simp] theorem encode_prefixCb (cbop : Byte) : encode (.prefixCb cbop) = [0xCB#8, cbop] := rfl

/-- STOP_LENGTH has a value for which a term other than the PREFIX CB row is well-formed. -/
theorem exists_wf {i : Instr} (h : ∀ b, i ≠ .prefixCb b) : ∃ n, i.wf n = true := by
  cases i
  case prefixCb b => exact absurd rfl (h b)
  case stop ign => cases ign; exacts [⟨.one, rfl⟩, ⟨.two, rfl⟩]
  all_goals exact ⟨.two, rfl⟩

/-- Every instruction is a form: it is what its own bytes decode to. -/
theorem Instr.form (i : Instr) : i.Form := by
  by_cases h : ∃ b, i = .prefixCb b
  · obtain ⟨b, rfl⟩ := h
    exact .prefixCb b (form_cbCell b)
  · obtain ⟨n, hn⟩ := exists_wf (not_exists.1 h)
    exact decodeInstr_encode hn ▸ form_decodeInstr ..

end Sys2Proof

/-! # What each form does

One equation per form: the count its step returns and the state it leaves (spec/40_load8.md to spec/47_system.md). -/

namespace Sys2Proof.Machine

open Stated

variable (s : State)

@[simp] theorem done_eq_next {n : BitVec 32} {s t : State} : done n s = .next t ↔ s.setCycles n = t := by
  simp [done]

/-- The condition an instruction tests is the one the statements name (R105). -/
theorem cond_eq_holds (cc : Cc) : cond cc s = holds cc s := by
  cases cc <;> rfl

/-! ## 8-bit loads (R200 to R215) -/

@[simp] theorem exec_ldR8R8 {y z : R8} (h : ¬(y = .ind ∧ z = .ind)) :
    exec (.ldR8R8 y z) s = done (if y = .ind ∨ z = .ind then 8#32 else 4#32)
      (writeR8 y (readR8 z s).1 (readR8 z s).2) := by
  cases y <;> cases z
  case ind.ind => exact absurd ⟨rfl, rfl⟩ h
  all_goals rfl

@[simp] theorem exec_ldR8D8 (y : R8) (d8 : Byte) :
    exec (.ldR8D8 y d8) s = done (if y = .ind then 12#32 else 8#32) (writeR8 y d8 s) := by
  cases y <;> rfl

@[simp] theorem exec_ldAIndBc : exec .ldAIndBc s = done 8#32 ((busRead s.bc s).2.setA (busRead s.bc s).1) := rfl
@[simp] theorem exec_ldAIndDe : exec .ldAIndDe s = done 8#32 ((busRead s.de s).2.setA (busRead s.de s).1) := rfl
@[simp] theorem exec_ldAIndC :
    exec .ldAIndC s = done 8#32 ((busRead (pageAddr s.c) s).2.setA (busRead (pageAddr s.c) s).1) := rfl
@[simp] theorem exec_ldhAIndA8 (a8 : Byte) :
    exec (.ldhAIndA8 a8) s = done 12#32 ((busRead (pageAddr a8) s).2.setA (busRead (pageAddr a8) s).1) := rfl
@[simp] theorem exec_ldAIndA16 (a16 : Word) :
    exec (.ldAIndA16 a16) s = done 16#32 ((busRead a16 s).2.setA (busRead a16 s).1) := rfl
@[simp] theorem exec_ldAIndHlInc : exec .ldAIndHlInc s =
    done 8#32 (((busRead s.hl s).2.setA (busRead s.hl s).1).setHl (s.hl + 1)) := rfl
@[simp] theorem exec_ldAIndHlDec : exec .ldAIndHlDec s =
    done 8#32 (((busRead s.hl s).2.setA (busRead s.hl s).1).setHl (s.hl - 1)) := rfl

@[simp] theorem exec_ldIndBcA : exec .ldIndBcA s = done 8#32 (busWrite s.bc s.a s) := rfl
@[simp] theorem exec_ldIndDeA : exec .ldIndDeA s = done 8#32 (busWrite s.de s.a s) := rfl
@[simp] theorem exec_ldIndCA : exec .ldIndCA s = done 8#32 (busWrite (pageAddr s.c) s.a s) := rfl
@[simp] theorem exec_ldhIndA8A (a8 : Byte) : exec (.ldhIndA8A a8) s = done 12#32 (busWrite (pageAddr a8) s.a s) := rfl
@[simp] theorem exec_ldIndA16A (a16 : Word) : exec (.ldIndA16A a16) s = done 16#32 (busWrite a16 s.a s) := rfl
@[simp] theorem exec_ldIndHlIncA :
    exec .ldIndHlIncA s = done 8#32 ((busWrite s.hl s.a s).setHl (s.hl + 1)) := rfl
@[simp] theorem exec_ldIndHlDecA :
    exec .ldIndHlDecA s = done 8#32 ((busWrite s.hl s.a s).setHl (s.hl - 1)) := rfl

/-! ## 16-bit loads and the stack (R250 to R255) -/

@[simp] theorem exec_ldRpD16 (p : Rp) (d16 : Word) : exec (.ldRpD16 p d16) s = done 12#32 (writeRp p d16 s) := by
  cases p <;> rfl

@[simp] theorem exec_ldIndA16Sp (a16 : Word) : exec (.ldIndA16Sp a16) s =
    done 20#32 (busWrite (a16 + 1) (hi8 s.sp) (busWrite a16 (lo8 s.sp) s)) := rfl
@[simp] theorem exec_ldSpHl : exec .ldSpHl s = done 8#32 (s.setSp s.hl) := rfl

@[simp] theorem exec_pushRp2 (p : Rp2) : exec (.pushRp2 p) s = done 16#32 (push16 (readRp2 p s) s) := by
  cases p <;> rfl

@[simp] theorem exec_popRp2 (p : Rp2) :
    exec (.popRp2 p) s = done 12#32 (writeRp2 p (pop16 s).1 (pop16 s).2) := by
  cases p <;> rfl

/-! ## 8-bit arithmetic and logic (R301 to R322) -/

@[simp] theorem aluA_eq_done (op : AluOp) (v : Byte) (n : BitVec 32) :
    aluA op v n s = done n ((s.setA (alu op s.a v s.flags.c).1).setFlags (alu op s.a v s.flags.c).2) := rfl

@[simp] theorem exec_aluR8 (op : AluOp) (z : R8) :
    exec (.aluR8 op z) s = aluA op (readR8 z s).1 (if z = .ind then 8#32 else 4#32) (readR8 z s).2 := by
  cases op <;> cases z <;> rfl

@[simp] theorem exec_aluD8 (op : AluOp) (d8 : Byte) : exec (.aluD8 op d8) s = aluA op d8 8#32 s := by
  cases op <;> rfl

@[simp] theorem exec_incR8 (y : R8) : exec (.incR8 y) s = done (if y = .ind then 12#32 else 4#32)
    ((writeR8 y (inc8 (readR8 y s).1 s.flags).1 (readR8 y s).2).setFlags (inc8 (readR8 y s).1 s.flags).2) := by
  cases y <;> rfl

@[simp] theorem exec_decR8 (y : R8) : exec (.decR8 y) s = done (if y = .ind then 12#32 else 4#32)
    ((writeR8 y (dec8 (readR8 y s).1 s.flags).1 (readR8 y s).2).setFlags (dec8 (readR8 y s).1 s.flags).2) := by
  cases y <;> rfl

@[simp] theorem exec_daa :
    exec .daa s = done 4#32 ((s.setA (daa s.a s.flags).1).setFlags (daa s.a s.flags).2) := rfl
@[simp] theorem exec_cpl : exec .cpl s =
    done 4#32 ((s.setA (s.a ^^^ 0xFF#8)).setFlags { s.flags with n := true, h := true }) := rfl
@[simp] theorem exec_scf :
    exec .scf s = done 4#32 (s.setFlags { s.flags with n := false, h := false, c := true }) := rfl
@[simp] theorem exec_ccf :
    exec .ccf s = done 4#32 (s.setFlags { s.flags with n := false, h := false, c := !s.flags.c }) := rfl

/-! ## 16-bit arithmetic (R350 to R355) -/

@[simp] theorem exec_incRp (p : Rp) : exec (.incRp p) s = done 8#32 (writeRp p (readRp p s + 1) s) := by
  cases p <;> rfl

@[simp] theorem exec_decRp (p : Rp) : exec (.decRp p) s = done 8#32 (writeRp p (readRp p s - 1) s) := by
  cases p <;> rfl

@[simp] theorem exec_addHlRp (p : Rp) : exec (.addHlRp p) s = done 8#32
    ((s.setHl (addHl s.hl (readRp p s) s.flags).1).setFlags (addHl s.hl (readRp p s) s.flags).2) := by
  cases p <;> rfl

@[simp] theorem exec_addSpE8 (e8 : Byte) : exec (.addSpE8 e8) s =
    done 16#32 ((s.setSp (spPlusE8 s.sp e8).1).setFlags (spPlusE8 s.sp e8).2) := rfl
@[simp] theorem exec_ldHlSpE8 (e8 : Byte) : exec (.ldHlSpE8 e8) s =
    done 12#32 ((s.setHl (spPlusE8 s.sp e8).1).setFlags (spPlusE8 s.sp e8).2) := rfl

/-! ## Rotates, shifts and single bits (R400 to R452) -/

@[simp] theorem rotateA_eq_done (op : RotOp) : rotateA op s = done 4#32
    ((s.setA (rotate op s.a s.flags.c).1).setFlags ⟨false, false, false, (rotate op s.a s.flags.c).2⟩) := rfl

@[simp] theorem exec_rlca : exec .rlca s = rotateA .rlc s := rfl
@[simp] theorem exec_rrca : exec .rrca s = rotateA .rrc s := rfl
@[simp] theorem exec_rla : exec .rla s = rotateA .rl s := rfl
@[simp] theorem exec_rra : exec .rra s = rotateA .rr s := rfl

@[simp] theorem rotR8_eq_done (op : RotOp) (z : R8) : rotR8 op z s = done (if z = .ind then 16#32 else 8#32)
    ((writeR8 z (rotate op (readR8 z s).1 s.flags.c).1 (readR8 z s).2).setFlags
      ⟨decide ((rotate op (readR8 z s).1 s.flags.c).1 = 0#8), false, false,
        (rotate op (readR8 z s).1 s.flags.c).2⟩) := rfl

@[simp] theorem bitR8_eq_done (b : Nat) (z : R8) : bitR8 b z s = done (if z = .ind then 12#32 else 8#32)
    ((readR8 z s).2.setFlags { s.flags with z := !(readR8 z s).1.getLsbD b, n := false, h := true }) := rfl

@[simp] theorem resR8_eq_done (b : Nat) (z : R8) : resR8 b z s = done (if z = .ind then 16#32 else 8#32)
    (writeR8 z ((readR8 z s).1 &&& ~~~(1#8 <<< b)) (readR8 z s).2) := rfl

@[simp] theorem setR8_eq_done (b : Nat) (z : R8) : setR8 b z s = done (if z = .ind then 16#32 else 8#32)
    (writeR8 z ((readR8 z s).1 ||| (1#8 <<< b)) (readR8 z s).2) := rfl

@[simp] theorem exec_rotR8 (op : RotOp) (z : R8) : exec (.rotR8 op z) s = rotR8 op z s := by
  cases op <;> cases z <;> rfl

@[simp] theorem exec_bitR8 (b : Fin 8) (z : R8) : exec (.bitR8 b z) s = bitR8 b z s := by
  fin_cases b <;> cases z <;> rfl

@[simp] theorem exec_resR8 (b : Fin 8) (z : R8) : exec (.resR8 b z) s = resR8 b z s := by
  fin_cases b <;> cases z <;> rfl

@[simp] theorem exec_setR8 (b : Fin 8) (z : R8) : exec (.setR8 b z) s = setR8 b z s := by
  fin_cases b <;> cases z <;> rfl

/-! ## Jumps, calls, returns and restarts (R500 to R510) -/

@[simp] theorem exec_jpA16 (a16 : Word) : exec (.jpA16 a16) s = done 16#32 (s.setPc a16) := rfl
@[simp] theorem exec_jpHl : exec .jpHl s = done 4#32 (s.setPc s.hl) := rfl
@[simp] theorem exec_jrE8 (e8 : Byte) : exec (.jrE8 e8) s = done 12#32 (s.setPc (s.pc + sext16 e8)) := rfl
@[simp] theorem exec_callA16 (a16 : Word) : exec (.callA16 a16) s = done 24#32 (call a16 s) := rfl
@[simp] theorem exec_ret : exec .ret s = done 16#32 (ret s) := rfl
@[simp] theorem exec_reti : exec .reti s = done 16#32 (returnFromInterrupt s) := rfl

@[simp] theorem call_eq (target : Word) : call target s = (push16 s.pc s).setPc target := rfl
@[simp] theorem ret_eq : ret s = (pop16 s).2.setPc (pop16 s).1 := rfl
@[simp] theorem returnFromInterrupt_eq :
    returnFromInterrupt s = ((pop16 s).2.setPc (pop16 s).1).setIme true := rfl

@[simp] theorem exec_rst (y : Fin 8) : exec (.rst y) s = done 16#32 (call (BitVec.ofNat 16 (8 * y)) s) := by
  fin_cases y <;> rfl

@[simp] theorem exec_jpCc (cc : Cc) (a16 : Word) : exec (.jpCc cc a16) s = jpCc cc a16 s := by cases cc <;> rfl
@[simp] theorem exec_jrCc (cc : Cc) (e8 : Byte) : exec (.jrCc cc e8) s = jrCc cc e8 s := by cases cc <;> rfl
@[simp] theorem exec_callCc (cc : Cc) (a16 : Word) : exec (.callCc cc a16) s = callCc cc a16 s := by cases cc <;> rfl
@[simp] theorem exec_retCc (cc : Cc) : exec (.retCc cc) s = retCc cc s := by cases cc <;> rfl

@[simp] theorem jpCc_eq_done (cc : Cc) (a16 : Word) : jpCc cc a16 s =
    done (if holds cc s then 16#32 else 12#32) (if holds cc s then s.setPc a16 else s) := by
  unfold jpCc
  rw [cond_eq_holds]
  split <;> rfl

@[simp] theorem jrCc_eq_done (cc : Cc) (e8 : Byte) : jrCc cc e8 s =
    done (if holds cc s then 12#32 else 8#32) (if holds cc s then s.setPc (s.pc + sext16 e8) else s) := by
  unfold jrCc
  rw [cond_eq_holds]
  split <;> rfl

@[simp] theorem callCc_eq_done (cc : Cc) (a16 : Word) : callCc cc a16 s =
    done (if holds cc s then 24#32 else 12#32) (if holds cc s then call a16 s else s) := by
  unfold callCc
  rw [cond_eq_holds]
  split <;> rfl

@[simp] theorem retCc_eq_done (cc : Cc) : retCc cc s =
    done (if holds cc s then 20#32 else 8#32) (if holds cc s then ret s else s) := by
  unfold retCc
  rw [cond_eq_holds]
  split <;> rfl

/-! ## System (R530 to R536) -/

@[simp] theorem exec_nop : exec .nop s = done 4#32 s := rfl
@[simp] theorem exec_stop (ign : Option Byte) : exec (.stop ign) s = done 4#32 (s.setRun .stopped) := rfl
@[simp] theorem exec_halt : exec .halt s = halt s := rfl
@[simp] theorem exec_di : exec .di s = done 4#32 ((s.setIme false).setEiPending false) := rfl
@[simp] theorem exec_ei : exec .ei s = done 4#32 (s.setEiPending true) := rfl

@[simp] theorem halt_eq_done : halt s =
    done 4#32 (if s.ime = false ∧ s.pending ≠ 0#5 then s.setHaltBug true else s.setRun .halted) := by
  unfold halt
  split <;> rfl

@[simp] theorem exec_prefixCb (cbop : Byte) : exec (.prefixCb cbop) s = exec (cbCell cbop) s := by
  have hy : (Fin.ofNat 8 (fieldY cbop)).val = fieldY cbop := Nat.mod_mod ..
  show cbEntry cbop s = _
  unfold cbEntry cbCell
  generalize fieldX cbop = x
  match x with
  | 0 => exact (exec_rotR8 s _ _).symm
  | 1 => exact ((exec_bitR8 s _ _).trans (congrArg (bitR8 · _ s) hy)).symm
  | 2 => exact ((exec_resR8 s _ _).trans (congrArg (resR8 · _ s) hy)).symm
  | _ + 3 => exact ((exec_setR8 s _ _).trans (congrArg (setR8 · _ s) hy)).symm

@[simp] theorem raiseIllegal_locked (op : Byte) (a : Word) : (raiseIllegal op a s).locked = true := rfl
@[simp] theorem raiseIllegal_cycles (op : Byte) (a : Word) : (raiseIllegal op a s).cycles = s.params.lockedCycles := rfl

theorem isIllegal_iff {i : Instr} : isIllegal i = true ↔ ∃ op, (i, op) ∈ illegalTable := by
  simp [isIllegal]

/-- The eleven illegal opcodes raise IllegalOpcode with the opcode of R112. -/
theorem exec_of_mem_illegalTable {i : Instr} {op : Byte} (h : (i, op) ∈ illegalTable) :
    exec i s = .next (raiseIllegal op s.opcodePc s) := by
  simp only [illegalTable, List.mem_cons, List.not_mem_nil, Prod.mk.injEq, or_false] at h
  rcases h with h | h | h | h | h | h | h | h | h | h | h <;> obtain ⟨rfl, rfl⟩ := h <;> rfl

theorem exec_of_isIllegal {i : Instr} (h : isIllegal i = true) :
    ∃ op, exec i s = .next (raiseIllegal op s.opcodePc s) := by
  obtain ⟨op, hop⟩ := isIllegal_iff.1 h
  exact ⟨op, exec_of_mem_illegalTable s hop⟩

end Sys2Proof.Machine

/-! # The count a step returns, and the parameters

O23 and O59: what the forms share, carried through the four outcomes of a step (R580). -/

namespace Sys2Proof.Machine

open Stated

/-- A count of the instruction tables and of R632, in base cycles. -/
def IsCount (n : BitVec 32) : Prop := n.toNat ∈ [4, 8, 12, 16, 20, 24]

@[simp] theorem isCount_literals :
    IsCount 4#32 ∧ IsCount 8#32 ∧ IsCount 12#32 ∧ IsCount 16#32 ∧ IsCount 20#32 ∧ IsCount 24#32 := by
  simp [IsCount]

@[simp] theorem isCount_ite {p : Prop} [Decidable p] {m n : BitVec 32} :
    IsCount (if p then m else n) ↔ if p then IsCount m else IsCount n := by
  split <;> rfl

/-- An instruction returns a count of the tables, or locks the core and returns LOCKED_CYCLES. -/
theorem exec_count (i : Instr) (s : State) : ∀ t, exec i s = .next t →
    IsCount t.cycles ∨ (t.locked = true ∧ t.cycles = s.params.lockedCycles) := by
  induction i.form with
  | prefixCb b _ ih => simpa using ih
  | illegal i hi =>
    obtain ⟨op, hop⟩ := exec_of_isIllegal s hi
    simp [hop]
  | ldR8R8 y z hyz => simp [hyz]
  | _ => simp

theorem exec_params (i : Instr) (s : State) : ∀ t, exec i s = .next t → t.params = s.params := by
  induction i.form with
  | prefixCb b _ ih => simpa using ih
  | illegal i hi =>
    obtain ⟨op, hop⟩ := exec_of_isIllegal s hi
    simp [hop]
  | ldR8R8 y z hyz => simp [hyz]
  | jpCc cc | jrCc cc | callCc cc | retCc cc => by_cases h : holds cc s <;> simp [h]
  | halt => by_cases h : s.ime = false ∧ s.pending ≠ 0#5 <;> simp [h]
  | _ => simp

/-! ## The driver (R575 to R580) -/

@[simp] theorem elapse_cycles (s : State) : (elapse s).cycles = s.cycles := rfl
@[simp] theorem elapse_run (s : State) : (elapse s).run = s.run := rfl
@[simp] theorem elapse_locked (s : State) : (elapse s).locked = s.locked := rfl
@[simp] theorem elapse_params (s : State) : (elapse s).params = s.params := rfl

/-- A pending EI changes IME alone (R575). -/
theorem applyEi_state (pend : Bool) (op : Byte) (s : State) :
    applyEi pend op s = { s with ime := (applyEi pend op s).ime } := by
  unfold applyEi
  split <;> rfl

@[simp] theorem applyEi_cycles (pend : Bool) (op : Byte) (s : State) : (applyEi pend op s).cycles = s.cycles := by
  rw [applyEi_state]
@[simp] theorem applyEi_locked (pend : Bool) (op : Byte) (s : State) : (applyEi pend op s).locked = s.locked := by
  rw [applyEi_state]
@[simp] theorem applyEi_params (pend : Bool) (op : Byte) (s : State) : (applyEi pend op s).params = s.params := by
  rw [applyEi_state]

theorem instructionStep_next (s : State) : ∃ t, instructionStep s = .next t := by
  obtain ⟨u, hu⟩ := exec_next (fetchInstr (s.setEiPending false)).state (fetchInstr (s.setEiPending false)).instr
  simp [instructionStep, hu]

/-- No step faults or is refused (R562). -/
theorem step_next (s : State) : ∃ t, step s = .next t := by
  unfold step driverStep
  dsimp only
  split
  · exact ⟨_, rfl⟩
  split
  · exact ⟨_, rfl⟩
  split
  · exact ⟨_, rfl⟩
  · exact instructionStep_next _

theorem step_count {s t : State} (h : step s = .next t) :
    IsCount t.cycles ∨ (t.run ≠ .running ∧ t.cycles = s.params.idleCycles) ∨
      (t.locked = true ∧ t.cycles = s.params.lockedCycles) := by
  rcases step_cases h with ⟨hl, rfl⟩ | ⟨-, hr, rfl⟩ | ⟨-, -, -, -, rfl⟩ | ⟨-, -, -, u, hu, rfl⟩
  · exact .inr (.inr ⟨hl, rfl⟩)
  · exact .inr (.inl ⟨hr, by simp [idleStep]⟩)
  · simp
  · have := exec_count _ _ u hu
    simp only [fetchInstr_params, State.setEiPending_params, wake_params] at this
    simp only [elapse_cycles, applyEi_cycles, elapse_locked, applyEi_locked]
    tauto

theorem step_params {s t : State} (h : step s = .next t) : t.params = s.params := by
  rcases step_cases h with ⟨-, rfl⟩ | ⟨-, -, rfl⟩ | ⟨-, -, -, -, rfl⟩ | ⟨-, -, -, u, hu, rfl⟩
  · rfl
  · simp [idleStep]
  · simp
  · simp [exec_params _ _ u hu]

/-! ## The host's transactions (R48) -/

@[simp] theorem request_params (k : InterruptSource) (s : State) : (request k s).params = s.params := rfl

@[simp] theorem wakeStop_params (s : State) : (wakeStop s).params = s.params := by
  unfold wakeStop
  split <;> rfl

@[simp] theorem resetBlock_params (bootSkip : Bool) (s : State) : (resetBlock bootSkip s).params = s.params := by
  cases bootSkip <;> rfl

theorem transact_params {tr : Transaction} {s t : State} (h : transact tr s = .next t) : t.params = s.params := by
  cases tr with
  | reset bootSkip => cases h; simp
  | step => exact step_params h
  | request k =>
    simp only [transact] at h
    split at h <;> cases h
    simp
  | wakeStop => cases h; simp

theorem runTransactions_params {ts : List Transaction} {s t : State} (h : runTransactions ts s = .next t) :
    t.params = s.params := by
  induction ts generalizing s with
  | nil => cases h; rfl
  | cons tr ts ih =>
    simp only [runTransactions] at h
    split at h
    next s' hs' => exact (ih h).trans (transact_params hs')
    all_goals cases h

end Sys2Proof.Machine

namespace Sys2Proof.Proofs

open Machine

/-- Settles O23: a step answers because no instruction faults, and its count is that of one of the four outcomes
of R580; the chosen IDLE_CYCLES and LOCKED_CYCLES are 4. -/
theorem everyStepCompletesWithACount : Obligations.EveryStepCompletesWithACount := by
  intro s
  obtain ⟨t, ht⟩ := step_next s
  have hc := step_count ht
  refine ⟨t, ht, hc, fun hp => ?_⟩
  rw [hp] at hc
  rcases hc with hc | ⟨-, hc⟩ | ⟨-, hc⟩
  · exact hc
  · simp [hc, Params.chosen]
  · simp [hc, Params.chosen]

/-- Settles O59, by induction on the transactions; only a step has a case analysis to make. -/
theorem noTransactionChangesTheParameters : Obligations.NoTransactionChangesTheParameters :=
  ⟨fun _ _ _ => runTransactions_params, rfl⟩

end Sys2Proof.Proofs

/-! # Which forms write the special state

O57: the forms whose opcode the statement's tables name as writers of F, SP and PC, the addresses each form stores
to, and what each form leaves alone. -/

namespace Sys2Proof.Machine

open Stated

/-! ## Writers of F, SP and PC by form (R35, R36, R37) -/

@[simp] theorem writesF_aluR8 (op : AluOp) (z : R8) : writesF (.aluR8 op z) = true := by
  cases op <;> cases z <;> rfl
@[simp] theorem writesF_aluD8 (op : AluOp) (d8 : Byte) : writesF (.aluD8 op d8) = true := by cases op <;> rfl
@[simp] theorem writesF_incR8 (y : R8) : writesF (.incR8 y) = true := by cases y <;> rfl
@[simp] theorem writesF_decR8 (y : R8) : writesF (.decR8 y) = true := by cases y <;> rfl
@[simp] theorem writesF_addHlRp (p : Rp) : writesF (.addHlRp p) = true := by cases p <;> rfl
@[simp] theorem writesF_addSpE8 (e8 : Byte) : writesF (.addSpE8 e8) = true := rfl
@[simp] theorem writesF_ldHlSpE8 (e8 : Byte) : writesF (.ldHlSpE8 e8) = true := rfl
@[simp] theorem writesF_popRp2 (p : Rp2) : writesF (.popRp2 p) = decide (p = .af) := by cases p <;> rfl
@[simp] theorem writesF_rotR8 (op : RotOp) (z : R8) : writesF (.rotR8 op z) = true := by
  cases op <;> cases z <;> rfl
@[simp] theorem writesF_bitR8 (b : Fin 8) (z : R8) : writesF (.bitR8 b z) = true := by
  fin_cases b <;> cases z <;> rfl

@[simp] theorem writesF_operandless : writesF .daa = true ∧ writesF .cpl = true ∧ writesF .scf = true ∧
    writesF .ccf = true ∧ writesF .rlca = true ∧ writesF .rrca = true ∧ writesF .rla = true ∧
    writesF .rra = true := by
  decide

@[simp] theorem writesSp_ldRpD16 (p : Rp) (d16 : Word) : writesSp (.ldRpD16 p d16) = decide (p = .sp) := by
  cases p <;> rfl
@[simp] theorem writesSp_incRp (p : Rp) : writesSp (.incRp p) = decide (p = .sp) := by cases p <;> rfl
@[simp] theorem writesSp_decRp (p : Rp) : writesSp (.decRp p) = decide (p = .sp) := by cases p <;> rfl
@[simp] theorem writesSp_pushRp2 (p : Rp2) : writesSp (.pushRp2 p) = true := by cases p <;> rfl
@[simp] theorem writesSp_popRp2 (p : Rp2) : writesSp (.popRp2 p) = true := by cases p <;> rfl
@[simp] theorem writesSp_addSpE8 (e8 : Byte) : writesSp (.addSpE8 e8) = true := rfl
@[simp] theorem writesSp_callA16 (a16 : Word) : writesSp (.callA16 a16) = true := rfl
@[simp] theorem writesSp_callCc (cc : Cc) (a16 : Word) : writesSp (.callCc cc a16) = true := by cases cc <;> rfl
@[simp] theorem writesSp_retCc (cc : Cc) : writesSp (.retCc cc) = true := by cases cc <;> rfl
@[simp] theorem writesSp_rst (y : Fin 8) : writesSp (.rst y) = true := by fin_cases y <;> rfl
@[simp] theorem writesSp_operandless : writesSp .ldSpHl = true ∧ writesSp .ret = true ∧ writesSp .reti = true := by
  decide

@[simp] theorem writesPc_jpA16 (a16 : Word) : writesPc (.jpA16 a16) = true := rfl
@[simp] theorem writesPc_jpCc (cc : Cc) (a16 : Word) : writesPc (.jpCc cc a16) = true := by cases cc <;> rfl
@[simp] theorem writesPc_jrE8 (e8 : Byte) : writesPc (.jrE8 e8) = true := rfl
@[simp] theorem writesPc_jrCc (cc : Cc) (e8 : Byte) : writesPc (.jrCc cc e8) = true := by cases cc <;> rfl
@[simp] theorem writesPc_callA16 (a16 : Word) : writesPc (.callA16 a16) = true := rfl
@[simp] theorem writesPc_callCc (cc : Cc) (a16 : Word) : writesPc (.callCc cc a16) = true := by cases cc <;> rfl
@[simp] theorem writesPc_retCc (cc : Cc) : writesPc (.retCc cc) = true := by cases cc <;> rfl
@[simp] theorem writesPc_rst (y : Fin 8) : writesPc (.rst y) = true := by fin_cases y <;> rfl
@[simp] theorem writesPc_operandless : writesPc .jpHl = true ∧ writesPc .ret = true ∧ writesPc .reti = true := by
  decide

/-! The tables name the PREFIX CB row as they name the entry it selects, by the same two bytes (R535). -/

theorem opcode_cbCell (cbop : Byte) : opcode (cbCell cbop) = 0xCB := by simp [opcode]

@[simp] theorem writesF_prefixCb (cbop : Byte) : writesF (.prefixCb cbop) = writesF (cbCell cbop) := by
  simp [writesF, opcode, cbOpcode]
@[simp] theorem writesSp_prefixCb (cbop : Byte) : writesSp (.prefixCb cbop) = writesSp (cbCell cbop) := by
  simp [writesSp, opcode]
@[simp] theorem writesPc_prefixCb (cbop : Byte) : writesPc (.prefixCb cbop) = writesPc (cbCell cbop) := by
  simp [writesPc, opcode]
@[simp] theorem storesTo_prefixCb (cbop : Byte) (s : State) :
    storesTo (.prefixCb cbop) s = storesTo (cbCell cbop) s := by
  simp [storesTo, opcode, cbOpcode]

/-- No CB-table entry is an instruction with another first byte. -/
theorem cbCell_ne {i : Instr} (cbop : Byte) (h : opcode i ≠ 0xCB) : cbCell cbop ≠ i := by
  rintro rfl
  exact h (opcode_cbCell cbop)

theorem isIllegal_prefixCb (cbop : Byte) : isIllegal (.prefixCb cbop) = false := by
  simp [isIllegal, illegalTable]

theorem isIllegal_cbCell (cbop : Byte) : isIllegal (cbCell cbop) = false := by
  have hop : ∀ row ∈ illegalTable, opcode row.1 ≠ 0xCB := by decide
  rw [← Bool.not_eq_true, isIllegal_iff]
  rintro ⟨op, h⟩
  exact hop _ h (opcode_cbCell cbop)

/-! ## F, SP and PC -/

theorem writeRp_sp_of_ne {p : Rp} (h : p ≠ .sp) (v : Word) (s : State) : (writeRp p v s).sp = s.sp := by
  cases p
  case sp => exact absurd rfl h
  all_goals rfl

theorem writeRp2_f_of_ne {p : Rp2} (h : p ≠ .af) (v : Word) (s : State) : (writeRp2 p v s).f = s.f := by
  cases p
  case af => exact absurd rfl h
  all_goals rfl

theorem exec_f (i : Instr) (s : State) : ∀ t, exec i s = .next t → writesF i = false → t.f = s.f := by
  induction i.form with
  | prefixCb b _ ih => simpa using ih
  | illegal i hi =>
    obtain ⟨op, hop⟩ := exec_of_isIllegal s hi
    simp [hop]
  | ldR8R8 y z hyz => simp [hyz]
  | popRp2 p => simp +contextual [writeRp2_f_of_ne]
  | jpCc cc | jrCc cc | callCc cc | retCc cc => by_cases h : holds cc s <;> simp [h]
  | halt => by_cases h : s.ime = false ∧ s.pending ≠ 0#5 <;> simp [h]
  | _ => simp

theorem exec_sp (i : Instr) (s : State) : ∀ t, exec i s = .next t → writesSp i = false → t.sp = s.sp := by
  induction i.form with
  | prefixCb b _ ih => simpa using ih
  | illegal i hi =>
    obtain ⟨op, hop⟩ := exec_of_isIllegal s hi
    simp [hop]
  | ldR8R8 y z hyz => simp [hyz]
  | ldRpD16 | incRp | decRp => simp +contextual [writeRp_sp_of_ne]
  | jpCc cc | jrCc cc => by_cases h : holds cc s <;> simp [h]
  | halt => by_cases h : s.ime = false ∧ s.pending ≠ 0#5 <;> simp [h]
  | _ => simp

theorem exec_pc (i : Instr) (s : State) : ∀ t, exec i s = .next t → writesPc i = false → t.pc = s.pc := by
  induction i.form with
  | prefixCb b _ ih => simpa using ih
  | illegal i hi =>
    obtain ⟨op, hop⟩ := exec_of_isIllegal s hi
    simp [hop]
  | ldR8R8 y z hyz => simp [hyz]
  | halt => by_cases h : s.ime = false ∧ s.pending ≠ 0#5 <;> simp [h]
  | _ => simp

/-! ## IME, `ei_pending`, `halt_bug`, the run state and the lock (R38, R39, R42, R43, R44) -/

/-- Which instructions change the control state; the model's own field `opcodePc` is changed by none (log 6). -/
theorem exec_control (i : Instr) (s : State) : ∀ t, exec i s = .next t →
    (i ≠ .di → i ≠ .reti → t.ime = s.ime) ∧ (i ≠ .ei → i ≠ .di → t.eiPending = s.eiPending) ∧
    (i ≠ .halt → t.haltBug = s.haltBug) ∧ (i ≠ .halt → (∀ ign, i ≠ .stop ign) → t.run = s.run) ∧
    (isIllegal i = false → t.locked = s.locked ∧ t.illegalOpcode = s.illegalOpcode ∧ t.illegalPc = s.illegalPc) ∧
    t.opcodePc = s.opcodePc := by
  induction i.form with
  | prefixCb b _ ih =>
    simpa [cbCell_ne, opcode, encode, isIllegal_cbCell, isIllegal_prefixCb] using ih
  | illegal i hi =>
    obtain ⟨op, hop⟩ := exec_of_isIllegal s hi
    simp [hop, hi]
  | ldR8R8 y z hyz => simp [hyz]
  | jpCc cc | jrCc cc | callCc cc | retCc cc => by_cases h : holds cc s <;> simp [h]
  | halt => by_cases h : s.ime = false ∧ s.pending ≠ 0#5 <;> simp [h]
  | _ => simp

/-! ## The addresses each form stores to -/

@[simp] theorem storesTo_ldR8R8 {y z : R8} (h : ¬(y = .ind ∧ z = .ind)) (s : State) :
    storesTo (.ldR8R8 y z) s = if y = .ind then [s.hl] else [] := by
  cases y <;> cases z
  case ind.ind => exact absurd ⟨rfl, rfl⟩ h
  all_goals rfl
@[simp] theorem storesTo_ldR8D8 (y : R8) (d8 : Byte) (s : State) :
    storesTo (.ldR8D8 y d8) s = if y = .ind then [s.hl] else [] := by cases y <;> rfl
@[simp] theorem storesTo_incR8 (y : R8) (s : State) :
    storesTo (.incR8 y) s = if y = .ind then [s.hl] else [] := by cases y <;> rfl
@[simp] theorem storesTo_decR8 (y : R8) (s : State) :
    storesTo (.decR8 y) s = if y = .ind then [s.hl] else [] := by cases y <;> rfl
@[simp] theorem storesTo_rotR8 (op : RotOp) (z : R8) (s : State) :
    storesTo (.rotR8 op z) s = if z = .ind then [s.hl] else [] := by cases op <;> cases z <;> rfl
@[simp] theorem storesTo_resR8 (b : Fin 8) (z : R8) (s : State) :
    storesTo (.resR8 b z) s = if z = .ind then [s.hl] else [] := by fin_cases b <;> cases z <;> rfl
@[simp] theorem storesTo_setR8 (b : Fin 8) (z : R8) (s : State) :
    storesTo (.setR8 b z) s = if z = .ind then [s.hl] else [] := by fin_cases b <;> cases z <;> rfl

@[simp] theorem storesTo_ldIndBcA (s : State) : storesTo .ldIndBcA s = [s.bc] := rfl
@[simp] theorem storesTo_ldIndDeA (s : State) : storesTo .ldIndDeA s = [s.de] := rfl
@[simp] theorem storesTo_ldIndCA (s : State) : storesTo .ldIndCA s = [pageAddr s.c] := rfl
@[simp] theorem storesTo_ldhIndA8A (a8 : Byte) (s : State) : storesTo (.ldhIndA8A a8) s = [pageAddr a8] := rfl
@[simp] theorem storesTo_ldIndA16A (a16 : Word) (s : State) : storesTo (.ldIndA16A a16) s = [a16] := rfl
@[simp] theorem storesTo_ldIndHlIncA (s : State) : storesTo .ldIndHlIncA s = [s.hl] := rfl
@[simp] theorem storesTo_ldIndHlDecA (s : State) : storesTo .ldIndHlDecA s = [s.hl] := rfl
@[simp] theorem storesTo_ldIndA16Sp (a16 : Word) (s : State) : storesTo (.ldIndA16Sp a16) s = [a16, a16 + 1#16] := rfl

@[simp] theorem storesTo_pushRp2 (p : Rp2) (s : State) : storesTo (.pushRp2 p) s = [s.sp - 1#16, s.sp - 2#16] := by
  cases p <;> rfl
@[simp] theorem storesTo_callA16 (a16 : Word) (s : State) :
    storesTo (.callA16 a16) s = [s.sp - 1#16, s.sp - 2#16] := rfl
@[simp] theorem storesTo_callCc (cc : Cc) (a16 : Word) (s : State) :
    storesTo (.callCc cc a16) s = if holds cc s then [s.sp - 1#16, s.sp - 2#16] else [] := by
  cases cc <;> simp [storesTo, opcode, encode, Instr.callCc]
@[simp] theorem storesTo_rst (y : Fin 8) (s : State) : storesTo (.rst y) s = [s.sp - 1#16, s.sp - 2#16] := by
  fin_cases y <;> rfl

/-! ## IE and IF (R40, R41) -/

/-- After stores to the addresses `as` each interrupt register is as it was, unless its address is among them. -/
def KeepsInterruptRegs (as : List Word) (s t : State) : Prop :=
  (0xFFFF#16 ∉ as → t.ie = s.ie) ∧ (0xFF0F#16 ∉ as → t.iflag = s.iflag)

namespace KeepsInterruptRegs

variable {as bs : List Word} {s t u : State}

@[simp] theorem refl (as : List Word) (s : State) : KeepsInterruptRegs as s s :=
  ⟨fun _ => rfl, fun _ => rfl⟩

theorem trans (h : KeepsInterruptRegs as s t) (h' : KeepsInterruptRegs bs t u) :
    KeepsInterruptRegs (as ++ bs) s u := by
  obtain ⟨hie, hif⟩ := h
  obtain ⟨hie', hif'⟩ := h'
  simp only [KeepsInterruptRegs, List.mem_append, not_or]
  exact ⟨fun hm => (hie' hm.2).trans (hie hm.1), fun hm => (hif' hm.2).trans (hif hm.1)⟩

/-! The registers a form writes beside its stores do not matter. -/

@[simp] theorem setCycles_iff (n : BitVec 32) : KeepsInterruptRegs as s (t.setCycles n) ↔ KeepsInterruptRegs as s t :=
  .rfl
@[simp] theorem setFlags_iff (fl : Flags) : KeepsInterruptRegs as s (t.setFlags fl) ↔ KeepsInterruptRegs as s t :=
  .rfl
@[simp] theorem setHl_iff (v : Word) : KeepsInterruptRegs as s (t.setHl v) ↔ KeepsInterruptRegs as s t := .rfl
@[simp] theorem setPc_iff (v : Word) : KeepsInterruptRegs as s (t.setPc v) ↔ KeepsInterruptRegs as s t := .rfl

/-! The stores of the forms. -/

/-- A store reaches IE only at 0xFFFF and IF only at 0xFF0F (R61). -/
@[simp] theorem of_busWrite (a : Word) (v : Byte) (s : State) : KeepsInterruptRegs [a] s (busWrite a v s) := by
  simp only [KeepsInterruptRegs, List.mem_singleton, eq_comm (b := a), busWrite, extWrite]
  split
  case h_4 h => exact ⟨fun _ => rfl, fun hne => absurd (regionOf_eq_ifReg_iff.1 h) hne⟩
  case h_5 h => exact ⟨fun hne => absurd (regionOf_eq_ieReg_iff.1 h) hne, fun _ => rfl⟩
  all_goals exact ⟨fun _ => rfl, fun _ => rfl⟩

@[simp] theorem of_writeR8 (r : R8) (v : Byte) (s : State) :
    KeepsInterruptRegs (if r = .ind then [s.hl] else []) s (writeR8 r v s) := by
  cases r
  case ind => exact of_busWrite s.hl v s
  all_goals exact ⟨fun _ => rfl, fun _ => rfl⟩

/-- A form that reads its operand first stores to HL as it was, since a read changes the port's history alone. -/
@[simp] theorem of_writeR8_readR8 (y z : R8) (v : Byte) (s : State) :
    KeepsInterruptRegs (if y = .ind then [s.hl] else []) s (writeR8 y v (readR8 z s).2) := by
  simpa [KeepsInterruptRegs, State.hl] using of_writeR8 y v (readR8 z s).2

@[simp] theorem of_busWrite_busWrite (a b : Word) (v w : Byte) (s : State) :
    KeepsInterruptRegs [a, b] s (busWrite b w (busWrite a v s)) :=
  (of_busWrite a v s).trans (of_busWrite b w _)

@[simp] theorem of_push16 (v : Word) (s : State) :
    KeepsInterruptRegs [s.sp - 1#16, s.sp - 2#16] s (push16 v s) := by
  have h1 : KeepsInterruptRegs [s.sp - 1#16] s (busWrite (s.sp - 1#16) (hi8 v) (s.setSp (s.sp - 1#16))) :=
    of_busWrite ..
  have h2 := h1.trans (of_busWrite (s.sp - 2#16) (lo8 v) (State.setSp (s.sp - 2#16) _))
  simpa [push16, BitVec.sub_sub] using h2

end KeepsInterruptRegs

theorem exec_interruptRegs (i : Instr) (s : State) : ∀ t, exec i s = .next t →
    KeepsInterruptRegs (storesTo i s) s t := by
  induction i.form with
  | prefixCb b _ ih => simpa using ih
  | illegal i hi =>
    obtain ⟨op, hop⟩ := exec_of_isIllegal s hi
    simp [hop, KeepsInterruptRegs]
  | ldR8R8 y z hyz => simp [hyz]
  | ldR8D8 | incR8 | decR8 | rotR8 | resR8 | setR8 | ldIndBcA | ldIndDeA | ldIndCA | ldhIndA8A | ldIndA16A
  | ldIndHlIncA | ldIndHlDecA | ldIndA16Sp | pushRp2 | callA16 | rst => simp
  | callCc cc => by_cases h : holds cc s <;> simp [h]
  | jpCc cc | jrCc cc | retCc cc => by_cases h : holds cc s <;> simp [h, KeepsInterruptRegs]
  | halt => by_cases h : s.ime = false ∧ s.pending ≠ 0#5 <;> simp [h, KeepsInterruptRegs]
  | _ => simp [KeepsInterruptRegs]

end Sys2Proof.Machine

namespace Sys2Proof.Proofs

open Machine

/-- Settles O57: one case split over the forms for each of F, SP, PC, the control state, the interrupt registers
and the parameters. -/
theorem onlyTheNamedInstructionsWriteTheSpecialState :
    Obligations.OnlyTheNamedInstructionsWriteTheSpecialState := by
  intro i s t h
  obtain ⟨hime, hei, hbug, hrun, hlock, hopc⟩ := exec_control i s t h
  obtain ⟨hie, hif⟩ := exec_interruptRegs i s t h
  exact ⟨exec_f i s t h, exec_sp i s t h, exec_pc i s t h, hime, hei, hbug, hrun, hlock, hie, hif,
    exec_params i s t h, hopc⟩

end Sys2Proof.Proofs

/-! # The invariant

O7, O25 and O26: what each instruction, the driver and the host's transactions keep of `State.Inv`. -/

namespace Sys2Proof.Machine

open Stated

/-! ## F and memory through an instruction (R33, R45) -/

/-- Every write of F masks its low nibble (R33), so no form can set a bit there. -/
theorem exec_flagsLow {s : State} (h : s.f &&& 0x0F#8 = 0#8) (i : Instr) :
    ∀ t, exec i s = .next t → t.f &&& 0x0F#8 = 0#8 := by
  induction i.form with
  | prefixCb b _ ih => simpa using ih
  | illegal i hi =>
    obtain ⟨op, hop⟩ := exec_of_isIllegal s hi
    simp [hop, h]
  | ldR8R8 y z hyz => simp [hyz, h]
  | popRp2 p => simp [writeRp2_flagsLow, h]
  | jpCc cc | jrCc cc | callCc cc | retCc cc => by_cases hc : holds cc s <;> simp [hc, h]
  | halt => by_cases hb : s.ime = false ∧ s.pending ≠ 0#5 <;> simp [hb, h]
  | _ => simp [h]

/-- The state's memory is in its canonical form. -/
def State.MemoryWf (s : State) : Prop := Memory.wf s.params.ramFill s.mem

namespace State.MemoryWf

variable {s : State}

/-! What a form writes beside its stores does not matter, nor does the read before a store. -/

@[simp] theorem setCycles_iff (n : BitVec 32) : (s.setCycles n).MemoryWf ↔ s.MemoryWf := .rfl
@[simp] theorem setFlags_iff (fl : Flags) : (s.setFlags fl).MemoryWf ↔ s.MemoryWf := .rfl
@[simp] theorem setHl_iff (v : Word) : (s.setHl v).MemoryWf ↔ s.MemoryWf := .rfl
@[simp] theorem setPc_iff (v : Word) : (s.setPc v).MemoryWf ↔ s.MemoryWf := .rfl
@[simp] theorem readR8_iff (r : R8) : (readR8 r s).2.MemoryWf ↔ s.MemoryWf := by simp [MemoryWf]

/-! The stores of the forms. -/

@[simp] theorem of_busWrite (h : s.MemoryWf) (a : Word) (v : Byte) : (busWrite a v s).MemoryWf := by
  simpa [MemoryWf] using busWrite_wf s a v h

@[simp] theorem of_writeR8 (h : s.MemoryWf) (r : R8) (v : Byte) : (writeR8 r v s).MemoryWf := by
  simpa [MemoryWf] using writeR8_wf s r v h

@[simp] theorem of_push16 (h : s.MemoryWf) (v : Word) : (push16 v s).MemoryWf := by
  simpa [MemoryWf] using push16_wf s v h

end State.MemoryWf

theorem exec_memoryWf {s : State} (h : s.MemoryWf) (i : Instr) : ∀ t, exec i s = .next t → t.MemoryWf := by
  induction i.form with
  | prefixCb b _ ih => simpa using ih
  | illegal i hi =>
    obtain ⟨op, hop⟩ := exec_of_isIllegal s hi
    simpa [hop, State.MemoryWf] using h
  | ldR8R8 y z hyz => simp [hyz, h]
  | ldR8D8 | incR8 | decR8 | rotR8 | resR8 | setR8 | ldIndBcA | ldIndDeA | ldIndCA | ldhIndA8A | ldIndA16A
  | ldIndHlIncA | ldIndHlDecA | ldIndA16Sp | pushRp2 | callA16 | rst => simp [h]
  | callCc cc => by_cases hc : holds cc s <;> simp [hc, h]
  | jpCc cc | jrCc cc | retCc cc => by_cases hc : holds cc s <;> simpa [hc, State.MemoryWf] using h
  | halt => by_cases hb : s.ime = false ∧ s.pending ≠ 0#5 <;> simpa [hb, State.MemoryWf] using h
  | _ => simpa [State.MemoryWf] using h

/-! ## The control state through an instruction (R39, R42, R43, R44) -/

section

variable {i : Instr} {s t : State} (h : exec i s = .next t)
include h

/-- Only HALT and STOP change the run state (R42). -/
theorem exec_run_cases :
    t.run = s.run ∨ (i = .halt ∧ t.run = .halted) ∨ ((∃ ign, i = .stop ign) ∧ t.run = .stopped) := by
  obtain ⟨-, -, -, hrun, -⟩ := exec_control i s t h
  by_cases hh : i = .halt
  · subst hh
    rw [exec_halt, halt_eq_done] at h
    split at h <;> cases h <;> simp
  by_cases hs : ∃ ign, i = .stop ign
  · obtain ⟨ign, rfl⟩ := hs
    cases h
    simp
  · exact .inl (hrun hh (not_exists.1 hs))

/-- Only HALT arms the HALT bug (R43), and it then leaves the rest of the control state alone (R530). -/
theorem exec_haltBug (hs : s.haltBug = false) (ht : t.haltBug = true) :
    t.run = s.run ∧ t.locked = s.locked ∧ t.eiPending = s.eiPending := by
  obtain ⟨-, -, hbug, -⟩ := exec_control i s t h
  have hi : i = .halt := by
    by_contra hne
    simp [hbug hne, hs] at ht
  subst hi
  rw [exec_halt, halt_eq_done] at h
  split at h <;> cases h
  · exact ⟨rfl, rfl, rfl⟩
  · simp [hs] at ht

/-- Only EI leaves an EI pending (R39), and it does nothing else (R533). -/
theorem exec_eiPending (hs : s.eiPending = false) (ht : t.eiPending = true) :
    t.run = s.run ∧ t.locked = s.locked := by
  obtain ⟨-, hei, -⟩ := exec_control i s t h
  by_cases hi : i = .ei
  · subst hi
    cases h
    exact ⟨rfl, rfl⟩
  by_cases hd : i = .di
  · subst hd
    cases h
    simp at ht
  · simp [hei hi hd, hs] at ht

/-- Only an illegal opcode locks the core (R44), and it leaves the run state alone (R560). -/
theorem exec_locked (hs : s.locked = false) (ht : t.locked = true) : t.run = s.run := by
  obtain ⟨-, -, -, -, hlock, -⟩ := exec_control i s t h
  by_cases hi : isIllegal i = true
  · obtain ⟨op, hop⟩ := exec_of_isIllegal s hi
    cases hop.symm.trans h
    rfl
  · simp [hlock (by simpa using hi), hs] at ht

/-- An instruction executed as the driver does it, in a running, unlocked core whose HALT bug is spent and whose
pending EI is taken over (R580), keeps the invariant. -/
theorem exec_inv (hinv : s.Inv) (hrun : s.run = .running) (hlock : s.locked = false) (hbug : s.haltBug = false)
    (hei : s.eiPending = false) : t.Inv where
  flagsLow := exec_flagsLow hinv.flagsLow i t h
  memory := exec_memoryWf hinv.memory i t h
  haltBug ht := by simpa [hrun, hlock, hei] using exec_haltBug h hbug ht
  eiPending ht := by simpa [hrun, hlock] using exec_eiPending h hei ht
  locked ht := by simpa [hrun] using exec_locked h hlock ht

end

/-! ## The driver and the host's transactions -/

namespace State.Inv

variable {s : State} (h : s.Inv)
include h

theorem setRunRunning : (s.setRun .running).Inv :=
  ⟨h.flagsLow, h.memory, fun hb => ⟨rfl, (h.haltBug hb).2⟩, fun he => ⟨rfl, (h.eiPending he).2⟩, fun _ => rfl⟩

theorem wake : (wake s).Inv := by
  unfold Machine.wake
  split
  · exact h.setRunRunning
  · exact h

theorem wakeStop : (wakeStop s).Inv := by
  unfold Machine.wakeStop
  split
  · exact h.setRunRunning
  · exact h

theorem elapse : (elapse s).Inv := ⟨h.flagsLow, h.memory, h.haltBug, h.eiPending, h.locked⟩

theorem idleStep (n : BitVec 32) : (idleStep n s).Inv :=
  ⟨h.flagsLow, h.memory, h.haltBug, h.eiPending, h.locked⟩

theorem request (k : InterruptSource) : (request k s).Inv :=
  ⟨h.flagsLow, h.memory, h.haltBug, h.eiPending, h.locked⟩

theorem applyEi (pend : Bool) (op : Byte) : (applyEi pend op s).Inv := by
  rw [applyEi_state]
  exact ⟨h.flagsLow, h.memory, h.haltBug, h.eiPending, h.locked⟩

/-- A dispatch spends the HALT bug and any pending EI, so only F, memory and the lock are left to see to (R571). -/
theorem dispatchInterrupt (hlock : s.locked = false) (k : InterruptSource) : (dispatchInterrupt k s).Inv where
  flagsLow := by simpa using h.flagsLow
  memory := by simpa using dispatchInterrupt_wf s k h.memory
  haltBug := by simp
  eiPending := by simp
  locked := by simp [hlock]

/-- The driver takes over a pending EI before the fetch, which spends the HALT bug (R101, R580). -/
theorem fetchInstr (hlock : s.locked = false) : (fetchInstr (s.setEiPending false)).state.Inv where
  flagsLow := by simpa using h.flagsLow
  memory := by simpa using h.memory
  haltBug := by simp
  eiPending := by simp
  locked := by simp [hlock]

end State.Inv

/-- The reset values of R46, in either mode and for any parameters. -/
theorem resetIn_inv (p : Params) (bootSkip : Bool) : (State.resetIn p bootSkip).Inv := by
  cases bootSkip <;> exact ⟨by simp [State.resetIn], Memory.wf_nil, nofun, nofun, nofun⟩

/-- To the reset values a reset of a running block adds the loaded bytes it keeps, a part of memory (log 13). -/
theorem resetBlock_inv {s : State} (h : s.Inv) (bootSkip : Bool) : (resetBlock bootSkip s).Inv := by
  obtain ⟨hf, -, hbug, hei, hlock⟩ := resetIn_inv s.params bootSkip
  refine ⟨hf, ?_, hbug, hei, hlock⟩
  rw [resetBlock_params]
  exact Memory.wf_filter h.memory

theorem step_inv {s t : State} (hinv : s.Inv) (h : step s = .next t) : t.Inv := by
  have hw := hinv.wake
  rcases step_cases h with ⟨-, rfl⟩ | ⟨-, -, rfl⟩ | ⟨hl, -, -, -, rfl⟩ | ⟨hl, hr, -, u, hu, rfl⟩
  · exact hinv.idleStep _
  · exact hw.idleStep _
  · exact (hw.dispatchInterrupt (by simpa using hl) _).elapse
  · have hfetch := hw.fetchInstr (by simpa using hl)
    exact ((exec_inv hu hfetch (by simpa using hr) (by simpa using hl) (by simp) (by simp)).applyEi _ _).elapse

theorem transact_inv {tr : Transaction} {s t : State} (hinv : s.Inv) (h : transact tr s = .next t) : t.Inv := by
  cases tr with
  | reset bootSkip => cases h; exact resetBlock_inv hinv bootSkip
  | step => exact step_inv hinv h
  | request k =>
    simp only [transact] at h
    split at h <;> cases h
    exact hinv.request _
  | wakeStop => cases h; exact hinv.wakeStop

theorem runTransactions_inv {ts : List Transaction} {s t : State} (hinv : s.Inv)
    (h : runTransactions ts s = .next t) : t.Inv := by
  induction ts generalizing s with
  | nil => cases h; exact hinv
  | cons tr ts ih =>
    simp only [runTransactions] at h
    split at h
    next s' hs' => exact ih (transact_inv hinv hs') h
    all_goals cases h

end Sys2Proof.Machine

namespace Sys2Proof.Proofs

open Machine

/-- Settles O25: over the four outcomes of a step; for an executed instruction, by who writes F, memory, the HALT
bug, `ei_pending` and the lock. -/
theorem everyStepKeepsTheInvariant : Obligations.EveryStepKeepsTheInvariant :=
  fun _ _ => step_inv

/-- Settles O26, by induction on the transactions. -/
theorem everyRunOfTransactionsKeepsTheInvariant : Obligations.EveryRunOfTransactionsKeepsTheInvariant :=
  fun _ _ _ => runTransactions_inv

/-- Settles O7: one lemma for both modes and all parameters. -/
theorem resetStatesSatisfyTheInvariant : Obligations.ResetStatesSatisfyTheInvariant :=
  ⟨fun p => ⟨resetIn_inv p false, resetIn_inv p true⟩, resetIn_inv Params.chosen Config.bootSkip⟩

end Sys2Proof.Proofs

/-! # The lock and the run state

O24 and O27: how a locked core steps, and which step leaves which run state. -/

namespace Sys2Proof.Machine

open Stated

/-! ## The lock (R44, R560) -/

section

variable {s : State} (h : s.locked = true)
include h

theorem step_of_locked : step s = .next (idleStep s.params.lockedCycles s) := by
  simp [step, driverStep, h]

theorem core_run_succ_of_locked (n : Nat) :
    core.run (n + 1) s = core.run n (idleStep s.params.lockedCycles s) := by
  have hstep : core.step s = .next (idleStep s.params.lockedCycles s) := step_of_locked h
  simp only [Host.Core.run, hstep]

/-- Steps of a locked core change the model's own two fields alone (log 7). -/
theorem core_run_of_locked (n : Nat) : core.run (n + 1) s = .next { s with
    cycles := s.params.lockedCycles
    port := List.replicate (n + 1) (.elapsed s.params.lockedCycles) ++ s.port } := by
  induction n generalizing s with
  | zero => exact core_run_succ_of_locked h 0
  | succ n ih =>
    refine (core_run_succ_of_locked h _).trans ((ih (s := idleStep s.params.lockedCycles s) h).trans ?_)
    rw [List.replicate_succ' (n := n + 1), List.append_assoc]
    rfl

theorem wakeStop_of_locked : (wakeStop s).locked = true := by
  unfold wakeStop
  split <;> exact h

end

/-! ## The run state (R42, R576, R578) -/

theorem wake_run (s : State) :
    (wake s).run = if s.run = .halted ∧ s.pending ≠ 0#5 then .running else s.run := by
  unfold wake
  split <;> rfl

/-- A wake does not change what is fetched. -/
theorem fetchInstr_wake_instr (s : State) : (fetchInstr (wake s)).instr = (fetchInstr s).instr := by
  unfold wake
  split
  · rw [fetchInstr_setRun]
  · rfl

@[simp] theorem applyEi_run (pend : Bool) (op : Byte) (s : State) : (applyEi pend op s).run = s.run := by
  rw [applyEi_state]

/-- A step leaves the run state, or wakes a HALTED core in which an interrupt is pending, or executes HALT or STOP in
a core that neither STOPPED nor HALTED keeps from fetching. -/
theorem step_run_cases {s t : State} (h : step s = .next t) :
    t.run = s.run ∨ (s.run = .halted ∧ s.pending ≠ 0#5 ∧ t.run = .running) ∨
      (s.run ≠ .stopped ∧ ¬(s.run = .halted ∧ s.pending = 0#5) ∧
        (((fetchInstr s).instr = .halt ∧ t.run = .halted) ∨
          ((∃ ign, (fetchInstr s).instr = .stop ign) ∧ t.run = .stopped))) := by
  have hwake : (wake s).run = s.run ∨ (s.run = .halted ∧ s.pending ≠ 0#5 ∧ (wake s).run = .running) := by
    rw [wake_run]
    split <;> simp_all
  rcases step_cases h with ⟨-, rfl⟩ | ⟨-, -, rfl⟩ | ⟨-, -, -, -, rfl⟩ | ⟨-, hr, -, u, hu, rfl⟩
  · exact .inl rfl
  · exact hwake.imp_right .inl
  · simpa using hwake.imp_right .inl
  · have hexec := exec_run_cases hu
    simp only [fetchInstr_setEiPending, fetchInstr_wake_instr, State.setEiPending_run, fetchInstr_run] at hexec
    simp only [elapse_run, applyEi_run]
    rcases hexec with hu | hu
    · exact hu ▸ hwake.imp_right .inl
    · have hne : s.run ≠ .stopped ∧ ¬(s.run = .halted ∧ s.pending = 0#5) := by
        rw [wake_run] at hr
        split at hr <;> simp_all
      exact .inr (.inr ⟨hne.1, hne.2, hu⟩)

end Sys2Proof.Machine

namespace Sys2Proof.Proofs

open Machine

/-- Settles O24, by induction on the number of steps; every step of a locked core is the same idle step. -/
theorem aLockedCoreStaysAsItIs : Obligations.ALockedCoreStaysAsItIs := by
  intro s h
  refine ⟨fun n => ⟨_, core_run_of_locked h n, rfl, rfl, rfl, rfl⟩, fun _ => h, wakeStop_of_locked h, ?_⟩
  rintro (_ | _) <;> rfl

/-- Settles O27, from the three things a step can do to the run state. -/
theorem theRunStateChangesOnlyAsTabled : Obligations.TheRunStateChangesOnlyAsTabled := by
  intro s t h
  rcases step_run_cases h with ht | ⟨hs, hp, ht⟩ | ⟨hstop, hhalt, hx⟩
  · rw [ht]
    exact ⟨id, fun hs _ => hs, .inl, .inl⟩
  · simp [hs, hp, ht]
  · refine ⟨fun hs => absurd hs hstop, fun hs hp => absurd ⟨hs, hp⟩ hhalt, ?_⟩
    rcases hx with ⟨hi, ht⟩ | ⟨hi, ht⟩ <;> simp [hi, ht]

end Sys2Proof.Proofs

/-! # What a write reaches (R63, R64, R69, R72)

O9, O10 and O11: a write is read back through every address of its location, and no other location's byte
changes. -/

namespace Sys2Proof.Machine

open Stated

variable {a a' : Word}

/-! ## Locations and regions -/

theorem location_of_regionOf_ram {n : Nat} (h : regionOf a = .ram n) : location a = n := by
  simp only [regionOf] at h
  simp only [location]
  split_ifs at h <;> simp only [Region.ram.injEq] at h
  all_goals split_ifs <;> omega

/-- Every address of a RAM byte's location is a RAM address (R61). -/
theorem isRam_of_location_eq (h : isRam a) (hl : location a' = location a) : isRam a' := by
  unfold isRam at h ⊢
  simp only [location] at hl
  split_ifs at hl <;> omega

/-- Work RAM up to 0xDDFF is seen 0x2000 above (R63). -/
theorem location_add_of_workRam (h : 0xC000 ≤ a.toNat ∧ a.toNat ≤ 0xDDFF) :
    location (a + 0x2000#16) = location a := by
  have hadd : (a + 0x2000#16).toNat = a.toNat + 0x2000 := by bv_omega
  simp only [location, hadd]
  split_ifs <;> omega

/-- The echo is seen 0x2000 below (R63). -/
theorem location_sub_of_echo (h : 0xE000 ≤ a.toNat ∧ a.toNat ≤ 0xFDFF) :
    location (a - 0x2000#16) = location a := by
  have hsub : (a - 0x2000#16).toNat = a.toNat - 0x2000 := by bv_omega
  simp only [location, hsub]
  split_ifs <;> omega

/-- Work RAM from 0xDE00 has no echo: 0x2000 above are other locations (R63). -/
theorem location_add_ne_of_upperWorkRam (h : 0xDE00 ≤ a.toNat ∧ a.toNat ≤ 0xDFFF) :
    location (a + 0x2000#16) ≠ location a := by
  have hadd : (a + 0x2000#16).toNat = a.toNat + 0x2000 := by bv_omega
  simp only [location, hadd]
  split_ifs <;> omega

/-- The block owns every byte but the external ones (R61). -/
theorem peek_eq_none_iff {s : State} : peek a s = none ↔ regionOf a = .external := by
  cases h : regionOf a <;> simp [peek, h]

/-! ## Reading after a write -/

variable (s : State) (v : Byte)

theorem busRead_busWrite_of_location_eq (h : isRam a) (hl : location a' = location a) :
    busRead a' (busWrite a v s) = (v, busWrite a v s) := by
  have hr' := regionOf_of_isRam (isRam_of_location_eq h hl)
  exact busRead_of_peek _ (peek_busWrite_ram s v (regionOf_of_isRam h) (hl ▸ hr'))

/-- Two locations of one region are two RAM cells, or lie where a write stores nothing that a peek shows. -/
theorem peek_busWrite_of_location_ne (h : location a' ≠ location a) : peek a' (busWrite a v s) = peek a' s := by
  by_cases hr : regionOf a' = regionOf a
  case neg => exact peek_busWrite_other s v hr
  cases ha : regionOf a
  case external => simp [peek, hr, ha]
  case ram n => exact absurd ((location_of_regionOf_ram (hr.trans ha)).trans (location_of_regionOf_ram ha).symm) h
  case unused => rw [busWrite_of_unused s v ha]
  case ifReg =>
    rw [regionOf_eq_ifReg_iff.1 ha, regionOf_eq_ifReg_iff.1 (hr.trans ha)] at h
    exact absurd rfl h
  case ieReg =>
    rw [regionOf_eq_ieReg_iff.1 ha, regionOf_eq_ieReg_iff.1 (hr.trans ha)] at h
    exact absurd rfl h

/-- A write leaves the byte the collaborators are loaded with at another address (log 5). -/
theorem find_busWrite_of_external (hr : regionOf a' = .external) (h : a' ≠ a) :
    Memory.find (busWrite a v s).mem a'.toNat = Memory.find s.mem a'.toNat := by
  cases ha : regionOf a
  case external =>
    rw [busWrite_of_external s v ha]
    exact extWrite_find_ne s v fun e => h (BitVec.eq_of_toNat_eq e)
  case ram n =>
    have hne : a'.toNat ≠ n := by
      rintro rfl
      have hext := externalAddress_of_region hr
      have hram := ramAddress_of_region ha
      simp only [externalAddress, ramAddress, Bool.or_eq_true, Bool.and_eq_true, decide_eq_true_eq] at hext hram
      omega
    rw [busWrite_of_ram s v ha]
    exact Memory.find_store_ne hne
  all_goals simp [busWrite, ha]

theorem byteAt_busWrite_of_location_ne (h : location a' ≠ location a) :
    byteAt a' (busWrite a v s) = byteAt a' s := by
  unfold byteAt
  rw [peek_busWrite_of_location_ne s v h]
  split
  · rfl
  · rename_i hp
    exact find_busWrite_of_external s v (peek_eq_none_iff.1 hp) fun e => h (congrArg location e)

/-- A write to the ROM region is a port access and nothing else (R64, log 5). -/
theorem busWrite_of_rom (h : a.toNat ≤ 0x7FFF) : busWrite a v s = { s with port := .write a v :: s.port } := by
  rw [busWrite_of_external s v (regionOf_of_isExternal (.inl (by omega)))]
  simp [extWrite, show a.toNat < 0x8000 by omega]

end Sys2Proof.Machine

namespace Sys2Proof.Proofs

open Machine Stated

/-- Settles O9: the locations of RAM are its cells, and no write reaches another location. -/
theorem ramReturnsTheLastByteWritten : Obligations.RamReturnsTheLastByteWritten := fun _ _ v s =>
  ⟨fun h hl => congrArg Prod.fst (busRead_busWrite_of_location_eq s v h hl), peek_busWrite_of_location_ne s v⟩

/-- Settles O10: an address and its mirror are one location, and above 0xDDFF there is no mirror. -/
theorem theEchoMirrorsWorkRam : Obligations.TheEchoMirrorsWorkRam := by
  intro a v s
  refine ⟨fun h => ?work, fun h => ?echo, fun h => ?upper⟩
  case work =>
    have ha : isRam a := .inl (by omega)
    exact busRead_busWrite_of_location_eq s v ha (location_add_of_workRam h)
  case echo =>
    have ha : isRam a := .inl (by omega)
    exact busRead_busWrite_of_location_eq s v ha (location_sub_of_echo h)
  case upper => exact byteAt_busWrite_of_location_ne s v (location_add_ne_of_upperWorkRam h)

/-- Settles O11: the ROM region is the port's, and its loaded bytes stay. -/
theorem romWritesChangeNoBlockState : Obligations.RomWritesChangeNoBlockState := fun _ v s h =>
  busWrite_of_rom s v h

end Sys2Proof.Proofs

/-! # What an instruction's stores reach (R60, R69)

O56: each form stores to the addresses the statement gives it, and what it does beside its stores changes no byte. -/

namespace Sys2Proof.Machine

open Stated

/-- A byte is read from memory, the parameters and the interrupt registers alone. -/
theorem byteAt_eq_of_fields_eq {s t : State} (hmem : t.mem = s.mem) (hparams : t.params = s.params)
    (hie : t.ie = s.ie) (hif : t.iflag = s.iflag) (a : Word) : byteAt a t = byteAt a s := by
  simp only [byteAt, peek, State.ifRead, hmem, hparams, hie, hif]

/-- After stores to the addresses `as` every byte of another location reads as before. -/
def LeavesOtherBytes (as : List Word) (s t : State) : Prop :=
  ∀ a : Word, (∀ w ∈ as, location w ≠ location a) → byteAt a t = byteAt a s

namespace LeavesOtherBytes

variable {as bs : List Word} {s t u : State}

@[simp] theorem refl (as : List Word) (s : State) : LeavesOtherBytes as s s := fun _ _ => rfl

theorem trans (h : LeavesOtherBytes as s t) (h' : LeavesOtherBytes bs t u) : LeavesOtherBytes (as ++ bs) s u := by
  intro a ha
  rw [List.forall_mem_append] at ha
  exact (h' a ha.2).trans (h a ha.1)

/-! What a form reads, and the registers it writes, do not matter. -/

@[simp] theorem setA_iff (v : Byte) : LeavesOtherBytes as s (t.setA v) ↔ LeavesOtherBytes as s t := .rfl
@[simp] theorem setFlags_iff (fl : Flags) : LeavesOtherBytes as s (t.setFlags fl) ↔ LeavesOtherBytes as s t := .rfl
@[simp] theorem setHl_iff (v : Word) : LeavesOtherBytes as s (t.setHl v) ↔ LeavesOtherBytes as s t := .rfl
@[simp] theorem setSp_iff (v : Word) : LeavesOtherBytes as s (t.setSp v) ↔ LeavesOtherBytes as s t := .rfl
@[simp] theorem setPc_iff (v : Word) : LeavesOtherBytes as s (t.setPc v) ↔ LeavesOtherBytes as s t := .rfl
@[simp] theorem setIme_iff (v : Bool) : LeavesOtherBytes as s (t.setIme v) ↔ LeavesOtherBytes as s t := .rfl
@[simp] theorem setEiPending_iff (v : Bool) :
    LeavesOtherBytes as s (t.setEiPending v) ↔ LeavesOtherBytes as s t := .rfl
@[simp] theorem setHaltBug_iff (v : Bool) : LeavesOtherBytes as s (t.setHaltBug v) ↔ LeavesOtherBytes as s t := .rfl
@[simp] theorem setRun_iff (v : RunState) : LeavesOtherBytes as s (t.setRun v) ↔ LeavesOtherBytes as s t := .rfl
@[simp] theorem setCycles_iff (n : BitVec 32) : LeavesOtherBytes as s (t.setCycles n) ↔ LeavesOtherBytes as s t :=
  .rfl
@[simp] theorem raiseIllegal_iff (op : Byte) (a : Word) :
    LeavesOtherBytes as s (raiseIllegal op a t) ↔ LeavesOtherBytes as s t := .rfl

@[simp] theorem of_writeRp (p : Rp) (v : Word) (s : State) : LeavesOtherBytes as s (writeRp p v s) :=
  fun _ _ => byteAt_eq_of_fields_eq (by simp) (by simp) (by simp) (by simp) _
@[simp] theorem of_busRead (a : Word) (s : State) : LeavesOtherBytes as s (busRead a s).2 :=
  fun _ _ => byteAt_eq_of_fields_eq (by simp) (by simp) (by simp) (by simp) _
@[simp] theorem of_readR8 (r : R8) (s : State) : LeavesOtherBytes as s (readR8 r s).2 :=
  fun _ _ => byteAt_eq_of_fields_eq (by simp) (by simp) (by simp) (by simp) _
@[simp] theorem of_pop16 (s : State) : LeavesOtherBytes as s (pop16 s).2 :=
  fun _ _ => byteAt_eq_of_fields_eq (by simp) (by simp) (by simp) (by simp) _
@[simp] theorem of_writeRp2_pop16 (p : Rp2) (v : Word) (s : State) :
    LeavesOtherBytes as s (writeRp2 p v (pop16 s).2) :=
  fun _ _ => byteAt_eq_of_fields_eq (by simp) (by simp) (by simp) (by simp) _

/-! The stores of the forms. -/

@[simp] theorem of_busWrite (a : Word) (v : Byte) (s : State) : LeavesOtherBytes [a] s (busWrite a v s) :=
  fun _ h => byteAt_busWrite_of_location_ne s v (h a (List.mem_singleton_self a)).symm

@[simp] theorem of_writeR8 (r : R8) (v : Byte) (s : State) :
    LeavesOtherBytes (if r = .ind then [s.hl] else []) s (writeR8 r v s) := by
  cases r
  case ind => exact of_busWrite s.hl v s
  all_goals exact fun _ _ => rfl

/-- A form that reads its operand first stores to HL as it was, since a read changes the port's history alone. -/
@[simp] theorem of_writeR8_readR8 (y z : R8) (v : Byte) (s : State) :
    LeavesOtherBytes (if y = .ind then [s.hl] else []) s (writeR8 y v (readR8 z s).2) := by
  simpa [State.hl] using (of_readR8 (as := []) z s).trans (of_writeR8 y v (readR8 z s).2)

@[simp] theorem of_busWrite_busWrite (a b : Word) (v w : Byte) (s : State) :
    LeavesOtherBytes [a, b] s (busWrite b w (busWrite a v s)) :=
  (of_busWrite a v s).trans (of_busWrite b w _)

@[simp] theorem of_push16 (v : Word) (s : State) :
    LeavesOtherBytes [s.sp - 1#16, s.sp - 2#16] s (push16 v s) := by
  have hhigh : LeavesOtherBytes [s.sp - 1#16] s (busWrite (s.sp - 1#16) (hi8 v) (s.setSp (s.sp - 1#16))) :=
    of_busWrite (s.sp - 1#16) (hi8 v) (s.setSp (s.sp - 1#16))
  have hlow := hhigh.trans (of_busWrite (s.sp - 2#16) (lo8 v) (State.setSp (s.sp - 2#16) _))
  simpa [push16, BitVec.sub_sub] using hlow

end LeavesOtherBytes

/-- Every form stores to its own addresses and to no others. -/
theorem exec_leavesOtherBytes (i : Instr) (s : State) : ∀ t, exec i s = .next t →
    LeavesOtherBytes (storesTo i s) s t := by
  induction i.form with
  | prefixCb b _ ih => simpa using ih
  | illegal i hi =>
    obtain ⟨op, hop⟩ := exec_of_isIllegal s hi
    simp [hop]
  | ldR8R8 y z hyz => simp [hyz]
  | jpCc cc | jrCc cc | callCc cc | retCc cc => by_cases h : holds cc s <;> simp [h]
  | halt => by_cases h : s.ime = false ∧ s.pending ≠ 0#5 <;> simp [h]
  | _ => simp

end Sys2Proof.Machine

namespace Sys2Proof.Proofs

open Machine

/-- Settles O56: each form's stores reach the locations of its own addresses. -/
theorem storesReachOnlyTheirAddress : Obligations.StoresReachOnlyTheirAddress := exec_leavesOtherBytes

end Sys2Proof.Proofs

/-! # The port's history (R62)

O58: an instruction that makes no port access runs alike after every history of the port. -/

namespace Sys2Proof.Machine

open Stated

/-- The same state after another history of the port. -/
def State.setPort (p : List PortEvent) (s : State) : State := { s with port := p }

variable (s : State) (p : List PortEvent)

/-! ## The history beside the block's own state -/

@[simp] theorem State.setPort_a : (s.setPort p).a = s.a := rfl
@[simp] theorem State.setPort_c : (s.setPort p).c = s.c := rfl
@[simp] theorem State.setPort_bc : (s.setPort p).bc = s.bc := rfl
@[simp] theorem State.setPort_de : (s.setPort p).de = s.de := rfl
@[simp] theorem State.setPort_hl : (s.setPort p).hl = s.hl := rfl
@[simp] theorem State.setPort_sp : (s.setPort p).sp = s.sp := rfl
@[simp] theorem State.setPort_pc : (s.setPort p).pc = s.pc := rfl
@[simp] theorem State.setPort_ime : (s.setPort p).ime = s.ime := rfl
@[simp] theorem State.setPort_opcodePc : (s.setPort p).opcodePc = s.opcodePc := rfl
@[simp] theorem State.setPort_pending : (s.setPort p).pending = s.pending := rfl
@[simp] theorem State.setPort_flags : (s.setPort p).flags = s.flags := rfl
@[simp] theorem holds_setPort (cc : Cc) : holds cc (s.setPort p) = holds cc s := rfl
@[simp] theorem readRp_setPort (r : Rp) : readRp r (s.setPort p) = readRp r s := rfl
@[simp] theorem readRp2_setPort (r : Rp2) : readRp2 r (s.setPort p) = readRp2 r s := rfl

@[simp] theorem setA_setPort (v : Byte) : (s.setPort p).setA v = (s.setA v).setPort p := rfl
@[simp] theorem setFlags_setPort (fl : Flags) : (s.setPort p).setFlags fl = (s.setFlags fl).setPort p := rfl
@[simp] theorem setHl_setPort (v : Word) : (s.setPort p).setHl v = (s.setHl v).setPort p := rfl
@[simp] theorem setSp_setPort (v : Word) : (s.setPort p).setSp v = (s.setSp v).setPort p := rfl
@[simp] theorem setPc_setPort (v : Word) : (s.setPort p).setPc v = (s.setPc v).setPort p := rfl
@[simp] theorem setIme_setPort (v : Bool) : (s.setPort p).setIme v = (s.setIme v).setPort p := rfl
@[simp] theorem setEiPending_setPort (v : Bool) : (s.setPort p).setEiPending v = (s.setEiPending v).setPort p := rfl
@[simp] theorem setHaltBug_setPort (v : Bool) : (s.setPort p).setHaltBug v = (s.setHaltBug v).setPort p := rfl
@[simp] theorem setRun_setPort (v : RunState) : (s.setPort p).setRun v = (s.setRun v).setPort p := rfl
@[simp] theorem setCycles_setPort (n : BitVec 32) : (s.setPort p).setCycles n = (s.setCycles n).setPort p := rfl
@[simp] theorem raiseIllegal_setPort (op : Byte) (a : Word) :
    raiseIllegal op a (s.setPort p) = (raiseIllegal op a s).setPort p := rfl
@[simp] theorem writeRp_setPort (r : Rp) (v : Word) : writeRp r v (s.setPort p) = (writeRp r v s).setPort p := by
  cases r <;> rfl
@[simp] theorem writeRp2_setPort (r : Rp2) (v : Word) : writeRp2 r v (s.setPort p) = (writeRp2 r v s).setPort p := by
  cases r <;> rfl

/-! ## When an access is none of the port's

A port access is one at an external address (R62), and the history only grows: two accesses leave it as it was if
each does. -/

theorem busRead_port_eq_iff (a : Word) : (busRead a s).2.port = s.port ↔ regionOf a ≠ .external := by
  cases h : regionOf a <;> simp [busRead, peek, extRead, h]

theorem busWrite_port_eq_iff (a : Word) (v : Byte) : (busWrite a v s).port = s.port ↔ regionOf a ≠ .external := by
  cases h : regionOf a <;> simp [busWrite, extWrite, h]

theorem port_suffix_busRead (a : Word) : s.port <:+ (busRead a s).2.port := by
  cases h : regionOf a <;> simp [busRead, peek, extRead, h]

theorem port_suffix_busWrite (a : Word) (v : Byte) : s.port <:+ (busWrite a v s).port := by
  cases h : regionOf a <;> simp [busWrite, extWrite, h]

theorem eq_iff_of_suffix {l m n : List PortEvent} (hlm : l <:+ m) (hmn : m <:+ n) : n = l ↔ m = l ∧ n = m := by
  refine ⟨?_, fun h => h.2.trans h.1⟩
  rintro rfl
  have hm : m = n := hmn.eq_of_length_le hlm.length_le
  exact ⟨hm, hm.symm⟩

/-- An access of the operand is no port access. -/
def R8.Owned (r : R8) (s : State) : Prop := r = .ind → regionOf s.hl ≠ .external

@[simp] theorem owned_readR8_iff (y z : R8) : R8.Owned y (readR8 z s).2 ↔ R8.Owned y s := by
  simp [R8.Owned, State.hl]

theorem readR8_port_eq_iff (r : R8) : (readR8 r s).2.port = s.port ↔ R8.Owned r s := by
  cases r
  case ind => simpa [R8.Owned, readR8] using busRead_port_eq_iff s s.hl
  all_goals simp [R8.Owned, readR8]

theorem writeR8_port_eq_iff (r : R8) (v : Byte) : (writeR8 r v s).port = s.port ↔ R8.Owned r s := by
  cases r
  case ind => simpa [R8.Owned, writeR8] using busWrite_port_eq_iff s s.hl v
  all_goals simp [R8.Owned, writeR8]

theorem port_suffix_readR8 (r : R8) : s.port <:+ (readR8 r s).2.port := by
  cases r
  case ind => exact port_suffix_busRead s s.hl
  all_goals exact List.suffix_rfl

theorem port_suffix_writeR8 (r : R8) (v : Byte) : s.port <:+ (writeR8 r v s).port := by
  cases r
  case ind => exact port_suffix_busWrite s s.hl v
  all_goals exact List.suffix_rfl

theorem writeR8_readR8_port_eq_iff (y z : R8) (v : Byte) :
    (writeR8 y v (readR8 z s).2).port = s.port ↔ R8.Owned z s ∧ R8.Owned y s := by
  rw [eq_iff_of_suffix (port_suffix_readR8 s z) (port_suffix_writeR8 _ y v), readR8_port_eq_iff,
    writeR8_port_eq_iff, owned_readR8_iff]

theorem busWrite_busWrite_port_eq_iff (a b : Word) (v w : Byte) :
    (busWrite b w (busWrite a v s)).port = s.port ↔ regionOf a ≠ .external ∧ regionOf b ≠ .external := by
  rw [eq_iff_of_suffix (port_suffix_busWrite s a v) (port_suffix_busWrite _ b w), busWrite_port_eq_iff,
    busWrite_port_eq_iff]

theorem push16_eq (v : Word) : push16 v s =
    busWrite (s.sp - 2#16) (lo8 v) ((busWrite (s.sp - 1#16) (hi8 v) (s.setSp (s.sp - 1#16))).setSp (s.sp - 2#16)) := by
  simp [push16, BitVec.sub_sub]

theorem push16_port_eq_iff (v : Word) :
    (push16 v s).port = s.port ↔ regionOf (s.sp - 1#16) ≠ .external ∧ regionOf (s.sp - 2#16) ≠ .external := by
  rw [push16_eq]
  have hgrow := eq_iff_of_suffix (port_suffix_busWrite (s.setSp (s.sp - 1#16)) (s.sp - 1#16) (hi8 v))
    (port_suffix_busWrite ((busWrite (s.sp - 1#16) (hi8 v) (s.setSp (s.sp - 1#16))).setSp (s.sp - 2#16))
      (s.sp - 2#16) (lo8 v))
  exact hgrow.trans (and_congr (busWrite_port_eq_iff _ _ _) (busWrite_port_eq_iff _ _ _))

theorem pop16_port_eq_iff :
    (pop16 s).2.port = s.port ↔ regionOf s.sp ≠ .external ∧ regionOf (s.sp + 1#16) ≠ .external := by
  have hgrow := eq_iff_of_suffix (port_suffix_busRead s s.sp)
    (port_suffix_busRead ((busRead s.sp s).2.setSp (s.sp + 1#16)) (s.sp + 1#16))
  simpa [pop16] using hgrow.trans (and_congr (busRead_port_eq_iff _ _) (busRead_port_eq_iff _ _))

/-! ## Such an access is the same after every history -/

theorem busRead_setPort {a : Word} (h : regionOf a ≠ .external) :
    busRead a (s.setPort p) = ((busRead a s).1, (busRead a s).2.setPort p) := by
  cases hp : peek a s with
  | none => exact absurd (peek_eq_none_iff.1 hp) h
  | some v => rw [busRead_of_peek s hp, busRead_of_peek (s.setPort p) hp]

theorem busWrite_setPort {a : Word} (h : regionOf a ≠ .external) (v : Byte) :
    busWrite a v (s.setPort p) = (busWrite a v s).setPort p := by
  cases hr : regionOf a
  case external => exact absurd hr h
  all_goals simp [busWrite, hr, State.setPort]

theorem readR8_setPort {r : R8} (h : R8.Owned r s) :
    readR8 r (s.setPort p) = ((readR8 r s).1, (readR8 r s).2.setPort p) := by
  cases r
  case ind => exact busRead_setPort s p (h rfl)
  all_goals rfl

theorem writeR8_setPort {r : R8} (h : R8.Owned r s) (v : Byte) :
    writeR8 r v (s.setPort p) = (writeR8 r v s).setPort p := by
  cases r
  case ind => exact busWrite_setPort s p (h rfl) v
  all_goals rfl

theorem push16_setPort (h1 : regionOf (s.sp - 1#16) ≠ .external) (h2 : regionOf (s.sp - 2#16) ≠ .external)
    (v : Word) : push16 v (s.setPort p) = (push16 v s).setPort p := by
  simp [push16_eq, busWrite_setPort, h1, h2]

theorem pop16_setPort (h1 : regionOf s.sp ≠ .external) (h2 : regionOf (s.sp + 1#16) ≠ .external) :
    pop16 (s.setPort p) = ((pop16 s).1, (pop16 s).2.setPort p) := by
  simp [pop16, busRead_setPort, h1, h2]

theorem exec_setPort (i : Instr) (s : State) (p : List PortEvent) : ∀ t, exec i s = .next t →
    t.port = s.port → exec i (s.setPort p) = .next (t.setPort p) := by
  induction i.form with
  | prefixCb b _ ih => simpa using ih
  | illegal i hi =>
    obtain ⟨op, hop⟩ := isIllegal_iff.1 hi
    simp [exec_of_mem_illegalTable _ hop]
  | ldR8R8 y z hyz => simp +contextual [hyz, writeR8_readR8_port_eq_iff, readR8_setPort, writeR8_setPort]
  | incR8 | decR8 | rotR8 | resR8 | setR8 =>
    simp +contextual [writeR8_readR8_port_eq_iff, readR8_setPort, writeR8_setPort]
  | ldR8D8 => simp +contextual [writeR8_port_eq_iff, writeR8_setPort]
  | aluR8 | bitR8 => simp +contextual [readR8_port_eq_iff, readR8_setPort]
  | ldAIndBc | ldAIndDe | ldAIndC | ldhAIndA8 | ldAIndA16 | ldAIndHlInc | ldAIndHlDec =>
    simp +contextual [busRead_port_eq_iff, busRead_setPort]
  | ldIndBcA | ldIndDeA | ldIndCA | ldhIndA8A | ldIndA16A | ldIndHlIncA | ldIndHlDecA =>
    simp +contextual [busWrite_port_eq_iff, busWrite_setPort]
  | ldIndA16Sp => simp +contextual [busWrite_busWrite_port_eq_iff, busWrite_setPort]
  | pushRp2 | callA16 | rst => simp +contextual [push16_port_eq_iff, push16_setPort]
  | popRp2 | ret | reti => simp +contextual [pop16_port_eq_iff, pop16_setPort]
  | callCc cc => by_cases h : holds cc s <;> simp +contextual [h, push16_port_eq_iff, push16_setPort]
  | retCc cc => by_cases h : holds cc s <;> simp +contextual [h, pop16_port_eq_iff, pop16_setPort]
  | jpCc cc | jrCc cc => by_cases h : holds cc s <;> simp [h]
  | halt => by_cases h : s.ime = false ∧ s.pending ≠ 0#5 <;> simp [h]
  | _ => simp

end Sys2Proof.Machine

namespace Sys2Proof.Proofs

open Machine

/-- Settles O58, by the forms: one whose accesses leave the history alone makes none at an external address, and
nothing else of an instruction reads the history. -/
theorem onlyPortRepliesReachTheBlock : Obligations.OnlyPortRepliesReachTheBlock := fun i s t p =>
  exec_setPort i s p t

end Sys2Proof.Proofs

/-! # The decoder and the encoder (R100 to R114)

O1 to O5: an instruction is one, two or three bytes long by its first byte (`Decodes`), and both `decode` and
`encode` are read off that. -/

namespace Sys2Proof

open Stated

/-- The bytes `bs` are an instruction's, as long as their first byte says, and `i` is what they decode to (R102,
R114). -/
inductive Decodes (n : StopLength) : List Byte → Instr → Prop
  | one {op : Byte} (h : instrLength n op = 1) : Decodes n [op] (decodeInstr n op 0 0)
  | two {op b1 : Byte} (h : instrLength n op = 2) : Decodes n [op, b1] (decodeInstr n op b1 0)
  | three {op b1 b2 : Byte} (h : instrLength n op = 3) : Decodes n [op, b1, b2] (decodeInstr n op b1 b2)

variable {n : StopLength}

/-! ## The length by the first byte (R114) -/

theorem instrLength_cases (n : StopLength) (op : Byte) :
    instrLength n op = 1 ∨ instrLength n op = 2 ∨ instrLength n op = 3 := by
  unfold instrLength
  split_ifs <;> cases n <;> simp [StopLength.toNat]

theorem instrLength_eq_two {op : Byte} (h : instrLength n op = 2) :
    op = 0xCB#8 ∨ op ∈ twoByteOpcodes ∨ (op = 0x10#8 ∧ n = .two) := by
  unfold instrLength at h
  split_ifs at h with hcb htwo hstop
  · exact .inl hcb
  · exact .inr (.inl htwo)
  · cases n
    · cases h
    · exact .inr (.inr ⟨hstop, rfl⟩)
  all_goals contradiction

theorem instrLength_eq_three {op : Byte} (h : instrLength n op = 3) : op ∈ threeByteOpcodes := by
  unfold instrLength at h
  split_ifs at h with hcb htwo hstop hthree
  · contradiction
  · contradiction
  · cases n <;> contradiction
  · exact hthree
  · contradiction

theorem length_encode_of_stopFits {i : Instr} (h : i.stopFits n = true) :
    (encode i).length = instrLength n ((encode i).headD 0#8) := by
  cases i
  case stop ign => exact Laws.EncodeLength.stop ign n h
  all_goals rfl

theorem Instr.stopFits_of_wf {i : Instr} (h : i.wf n = true) : i.stopFits n = true := by
  unfold Instr.wf at h
  split at h
  · cases h
  · exact h

/-! ## `decode` and `encode` are `Decodes` -/

theorem decode_eq_ok_iff {bs rest : List Byte} {i : Instr} :
    decode n bs = .ok (i, rest) ↔ ∃ pre, Decodes n pre i ∧ pre ++ rest = bs := by
  constructor
  · intro h
    unfold decode at h
    split at h
    · cases h
    · split at h <;> cases h
      · exact ⟨_, .one ‹_›, rfl⟩
      · exact ⟨_, .two ‹_›, rfl⟩
      · exact ⟨_, .three ‹_›, rfl⟩
  · rintro ⟨_, hd | hd | hd, rfl⟩ <;> simp [decode, hd]

theorem decodes_encode {i : Instr} (h : i.wf n = true) : Decodes n (encode i) i := by
  have hlen := length_encode_of_stopFits (Instr.stopFits_of_wf h)
  have hdec := decodeInstr_encode h
  rcases instrLength_cases n ((encode i).headD 0#8) with hn | hn | hn <;> rw [hn] at hlen
  · obtain ⟨op, henc⟩ := List.length_eq_one_iff.1 hlen
    rw [henc] at hn hdec ⊢
    exact hdec ▸ .one hn
  · obtain ⟨op, b1, henc⟩ := List.length_eq_two.1 hlen
    rw [henc] at hn hdec ⊢
    exact hdec ▸ .two hn
  · obtain ⟨op, b1, b2, henc⟩ := List.length_eq_three.1 hlen
    rw [henc] at hn hdec ⊢
    exact hdec ▸ .three hn

theorem Decodes.encode_eq {bs : List Byte} {i : Instr} (h : Decodes n bs i) : i.wf n = true ∧ encode i = bs := by
  cases h with
  | @one op h =>
    revert op
    cases n <;> decide
  | @two op b1 h =>
    rcases instrLength_eq_two h with rfl | hop | ⟨rfl, rfl⟩
    · exact ⟨by revert b1; cases n <;> decide, encode_cbCell b1⟩
    · clear h
      fin_cases hop <;> exact ⟨rfl, rfl⟩
    · exact ⟨rfl, rfl⟩
  | @three op b1 b2 h =>
    have hop := instrLength_eq_three h
    clear h
    fin_cases hop <;>
      exact ⟨rfl, congrArg₂ (fun lo hi => [_, lo, hi]) (lo8_mk16 b2 b1) (hi8_mk16 b2 b1)⟩

/-! ## Any three bytes, and the illegal opcodes (R112, R113) -/

theorem decode_three_bytes (n : StopLength) (op b1 b2 : Byte) : ∃ i rest, decode n [op, b1, b2] = .ok (i, rest) := by
  rcases instrLength_cases n op with h | h | h
  · exact ⟨_, _, decode_eq_ok_iff.2 ⟨_, .one h, rfl⟩⟩
  · exact ⟨_, _, decode_eq_ok_iff.2 ⟨_, .two h, rfl⟩⟩
  · exact ⟨_, _, decode_eq_ok_iff.2 ⟨_, .three h, rfl⟩⟩

theorem encode_of_mem_illegalTable {i : Instr} {op : Byte} (h : (i, op) ∈ illegalTable) : encode i = [op] := by
  have hrows : ∀ row ∈ illegalTable, encode row.1 = [row.2] := by decide
  exact hrows _ h

theorem wf_of_mem_illegalTable {i : Instr} {op : Byte} (h : (i, op) ∈ illegalTable) : i.wf n = true := by
  have hrows : ∀ row ∈ illegalTable, row.1.wf n = true := by cases n <;> decide
  exact hrows _ h

theorem exists_mem_illegalTable_iff {op : Byte} : (∃ i, (i, op) ∈ illegalTable) ↔
    op.toNat ∈ [0xD3, 0xDB, 0xDD, 0xE3, 0xE4, 0xEB, 0xEC, 0xED, 0xF4, 0xFC, 0xFD] := by
  have hcol : (∃ i, (i, op) ∈ illegalTable) ↔ op ∈ illegalTable.map Prod.snd := by simp
  rw [hcol]
  clear hcol
  revert op
  decide

end Sys2Proof

namespace Sys2Proof.Proofs

open Machine

/-- Settles O2: the encoding of a well-formed instruction is what `decode` takes off the string. -/
theorem decodeOfEncodeIsTheInstruction : Obligations.DecodeOfEncodeIsTheInstruction := fun _ i _ h =>
  decode_eq_ok_iff.2 ⟨encode i, decodes_encode h, rfl⟩

/-- Settles O3: the bytes `decode` takes off the string are the instruction's encoding. -/
theorem everyDecodingEncodesToTheSameBytes : Obligations.EveryDecodingEncodesToTheSameBytes := by
  intro n bs i rest h
  obtain ⟨pre, hpre, rfl⟩ := decode_eq_ok_iff.1 h
  obtain ⟨hwf, rfl⟩ := hpre.encode_eq
  exact ⟨hwf, rfl⟩

/-- Settles O4, by the two round trips: an illegal opcode is a whole encoding, so decoding it gives its row of the
table, and the instruction of a row has no other first byte. -/
theorem everyOpcodeDecodesAndElevenAreIllegal : Obligations.EveryOpcodeDecodesAndElevenAreIllegal := by
  intro n op b1 b2
  obtain ⟨i, rest, hdec⟩ := decode_three_bytes n op b1 b2
  refine ⟨i, rest, hdec, fun h => ?_, fun h => ?_⟩
  · obtain ⟨op', hrow⟩ := isIllegal_iff.1 h
    obtain ⟨-, henc⟩ := everyDecodingEncodesToTheSameBytes n _ _ _ hdec
    rw [encode_of_mem_illegalTable hrow] at henc
    obtain ⟨rfl, -⟩ := List.cons.inj henc
    exact exists_mem_illegalTable_iff.1 ⟨i, hrow⟩
  · obtain ⟨j, hrow⟩ := exists_mem_illegalTable_iff.2 h
    have hj := decodeOfEncodeIsTheInstruction n j [b1, b2] (wf_of_mem_illegalTable hrow)
    rw [encode_of_mem_illegalTable hrow, List.singleton_append, hdec] at hj
    cases hj
    exact isIllegal_iff.2 ⟨op, hrow⟩

/-- Settles O5: the table of lengths opcode by opcode; the PREFIX CB row is encoded as the entries it selects. -/
theorem lengthFollowsFromTheFirstByte : Obligations.LengthFollowsFromTheFirstByte := by
  refine ⟨fun n => ?table, ?encoding, ?counts⟩
  case table => cases n <;> decide
  case encoding =>
    rintro n i (h | ⟨b, rfl⟩)
    · exact length_encode_of_stopFits (Instr.stopFits_of_wf h)
    · rfl
  case counts => rintro n (rfl | rfl | rfl) <;> rfl

/-- Settles O1: the strings are the encodings of their instructions, by O2; STOP's ignored byte is in its encoding
if STOP_LENGTH is 2 and left over if it is 1. -/
theorem sampleWordsDecodeToTheirInstructions : Obligations.SampleWordsDecodeToTheirInstructions := by
  have hd := decodeOfEncodeIsTheInstruction
  refine ⟨fun n => ?_, hd .two (.stop (some 0xD3#8)) [] rfl, hd .one (.stop none) [0xD3#8] rfl⟩
  exact ⟨hd n .ldBC [] rfl, hd n (.ldIndHlD8 0x99#8) [] rfl, hd n (.ldBcD16 0x1234#16) [] rfl, hd n .pushDe [] rfl,
    hd n .sbcAIndHl [] rfl, hd n (.cpD8 0x40#8) [] rfl, hd n .addHlSp [] rfl, hd n .rra [] rfl, hd n .swapA [] rfl,
    hd n .bit3IndHl [] rfl, hd n (.callCA16 0x2000#16) [] rfl, hd n (.jrE8 0xFE#8) [] rfl, hd n .halt [] rfl,
    hd n .illegalFC [] rfl⟩

end Sys2Proof.Proofs

/-! # Fetching (R101, R102)

O14 and O15: what the opcode fetch does, and the instruction and the state a fetch gives for the bytes it reads. -/

namespace Sys2Proof.Machine

open Stated

variable {s : State}

/-! ## The bytes one at a time -/

theorem fetchOpcode_of_haltBug (h : s.haltBug = true) : fetchOpcode s =
    ((busRead s.pc s).1, { (busRead s.pc s).2 with haltBug := false, opcodePc := s.pc }) := by
  simp [fetchOpcode, h]

theorem fetchOpcode_of_no_haltBug (h : s.haltBug = false) : fetchOpcode s =
    ((busRead s.pc s).1, { (busRead s.pc s).2 with pc := s.pc + 1, opcodePc := s.pc }) := by
  simp [fetchOpcode, h]

/-- An instruction's bytes are fetched one after another, as many as the first of them says (R102, R114). -/
theorem fetchInstr_of_length_one {t : State} {op : Byte} (hop : fetchOpcode s = (op, t))
    (h : instrLength s.params.stopLength op = 1) :
    fetchInstr s = ⟨op, decodeInstr s.params.stopLength op 0 0, t⟩ := by
  simp [fetchInstr, hop, h]

theorem fetchInstr_of_length_two {t t1 : State} {op b1 : Byte} (hop : fetchOpcode s = (op, t))
    (h : instrLength s.params.stopLength op = 2) (h1 : fetch8 t = (b1, t1)) :
    fetchInstr s = ⟨op, decodeInstr s.params.stopLength op b1 0, t1⟩ := by
  simp [fetchInstr, hop, h, h1]

theorem fetchInstr_of_length_three {t t1 t2 : State} {op b1 b2 : Byte} (hop : fetchOpcode s = (op, t))
    (h : instrLength s.params.stopLength op = 3) (h1 : fetch8 t = (b1, t1)) (h2 : fetch8 t1 = (b2, t2)) :
    fetchInstr s = ⟨op, decodeInstr s.params.stopLength op b1 b2, t2⟩ := by
  simp [fetchInstr, hop, h, h1, h2]

/-! ## The bytes a state holds -/

/-- The port's history `p` after a fetch of `v` at `a`: an external fetch joins it (R62). -/
def historyAfterFetch (s : State) (a : Word) (v : Byte) (p : List PortEvent) : List PortEvent :=
  if peek a s = none then .read a v :: p else p

/-- A read of a byte the block owns or the collaborators are loaded with gives that byte. -/
theorem busRead_of_byteAt {a : Word} {v : Byte} (h : byteAt a s = some v) :
    busRead a s = (v, s.setPort (historyAfterFetch s a v s.port)) := by
  unfold byteAt at h
  split at h
  · rename_i w hw
    cases h
    simp [busRead_of_peek s hw, historyAfterFetch, hw, State.setPort]
  · rename_i hw
    simp [busRead, hw, historyAfterFetch, State.setPort, extRead, h]

theorem fetchOpcode_of_byteAt {v : Byte} (hbug : s.haltBug = false) (h : byteAt s.pc s = some v) :
    fetchOpcode s = (v, { s with
      pc := s.pc + 1, opcodePc := s.pc, port := historyAfterFetch s s.pc v s.port }) := by
  simp [fetchOpcode_of_no_haltBug hbug, busRead_of_byteAt h, State.setPort]

/-- What the fetches before it changed is not what a fetched byte depends on. -/
theorem fetch8_of_byteAt {a a0 : Word} {v : Byte} {p : List PortEvent} (h : byteAt a s = some v) :
    fetch8 { s with pc := a, opcodePc := a0, port := p } =
      (v, { s with pc := a + 1, opcodePc := a0, port := historyAfterFetch s a v p }) := by
  have h' : byteAt a { s with pc := a, opcodePc := a0, port := p } = some v := h
  unfold fetch8
  rw [busRead_of_byteAt h']
  rfl

/-- The port's history after the bytes `bs` are fetched at PC. -/
def historyAfterBytes (s : State) (bs : List Byte) : List PortEvent :=
  (List.range bs.length).foldl
    (fun p k => historyAfterFetch s (s.pc + BitVec.ofNat 16 k) (bs.getD k 0#8) p) s.port

/-- The state after the bytes `bs` are fetched at PC (R102). -/
def State.afterBytes (s : State) (bs : List Byte) : State :=
  { s with pc := s.pc + BitVec.ofNat 16 bs.length, opcodePc := s.pc, port := historyAfterBytes s bs }

/-- Where the bytes at PC are an instruction's, a fetch gives that instruction. -/
theorem fetchInstr_of_decodes {bs : List Byte} {i : Instr} (hd : Decodes s.params.stopLength bs i)
    (hbug : s.haltBug = false)
    (hbs : ∀ k (hk : k < bs.length), byteAt (s.pc + BitVec.ofNat 16 k) s = some bs[k]) :
    fetchInstr s = ⟨bs.headD 0#8, i, s.afterBytes bs⟩ := by
  have h0 {op : Byte} (h : byteAt (s.pc + 0#16) s = some op) := fetchOpcode_of_byteAt hbug (BitVec.add_zero s.pc ▸ h)
  cases hd with
  | @one op hlen =>
    rw [fetchInstr_of_length_one (h0 (hbs 0 (by simp))) hlen]
    simp [State.afterBytes, historyAfterBytes]
  | @two op b1 hlen =>
    rw [fetchInstr_of_length_two (h0 (hbs 0 (by simp))) hlen (fetch8_of_byteAt (hbs 1 (by simp)))]
    simp [State.afterBytes, historyAfterBytes, List.range_succ, BitVec.add_assoc]
  | @three op b1 b2 hlen =>
    have h2 : byteAt (s.pc + 1#16 + 1#16) s = some b2 := by simpa [BitVec.add_assoc] using hbs 2 (by simp)
    rw [fetchInstr_of_length_three (h0 (hbs 0 (by simp))) hlen (fetch8_of_byteAt (hbs 1 (by simp)))
      (fetch8_of_byteAt h2)]
    simp [State.afterBytes, historyAfterBytes, List.range_succ, BitVec.add_assoc]

theorem fetch8_of_peek {v : Byte} (h : peek s.pc s = some v) : fetch8 s = (v, s.setPc (s.pc + 1)) := by
  simp [fetch8, busRead_of_peek s h]

/-! ## The step around an instruction (R575, R580) -/

theorem step_of_executes (h : executes s) : step s = instructionStep s := by
  obtain ⟨hlock, hrun, hint⟩ := h
  have hdispatch : ¬(s.ime = true ∧ s.pending ≠ 0#5) := by
    rcases hint with h | h <;> simp [h]
  simp [step, driverStep, wake, hlock, hrun, hdispatch]

theorem applyEi_ime (pend : Bool) (op : Byte) (t : State) :
    (applyEi pend op t).ime = (t.ime || (pend && decide (op ≠ 0xF3#8) && !t.locked)) := by
  unfold applyEi
  split <;> simp_all

/-- The opcode that keeps a pending EI from setting IME is DI's alone (R575). -/
theorem encode_headD_eq_iff_di {n : StopLength} {i : Instr} (h : i.wf n = true) :
    (encode i).headD 0#8 = 0xF3#8 ↔ i = .di := by
  refine ⟨fun hop => ?_, by rintro rfl; rfl⟩
  have hdec := decodeInstr_encode h
  rw [List.headD_eq_getD] at hop
  rw [hop] at hdec
  exact hdec.symm

/-- The end of a step whose instruction is `i` (R575, R580). -/
theorem elapse_applyEi {n : StopLength} {i : Instr} (h : i.wf n = true) (pend : Bool) (t : State) :
    elapse (applyEi pend ((encode i).headD 0#8) t) = { t with
      ime := t.ime || (pend && decide (i ≠ .di) && !t.locked), port := .elapsed t.cycles :: t.port } := by
  rw [elapse, applyEi_state, applyEi_ime]
  simp only [ne_eq, encode_headD_eq_iff_di h]

end Sys2Proof.Machine

namespace Sys2Proof.Proofs

open Machine Stated

/-- Settles O14, by what a fetch gives for the bytes of an instruction (`fetchInstr_of_decodes`). -/
theorem aStepRunsTheDecodedInstruction : Obligations.AStepRunsTheDecodedInstruction := by
  intro s i hwf hex hbug hbs
  have hfetch := fetchInstr_of_decodes (decodes_encode hwf) hbug hbs
  rw [step_of_executes hex, instructionStep]
  simp only [fetchInstr_setEiPending, hfetch, elapse_applyEi hwf]
  rfl

/-- Settles O15, by the length of the instruction: the fetch of the opcode leaves PC at it, so the next fetch reads it
again. -/
theorem theHaltBugReadsOneByteTwice : Obligations.TheHaltBugReadsOneByteTwice := by
  intro s
  refine ⟨fetchOpcode_of_haltBug, fetchOpcode_of_no_haltBug, rfl, fun op b hbug hop hb => ?_⟩
  have h0 : fetchOpcode s = (op, { s with haltBug := false, opcodePc := s.pc }) := by
    rw [fetchOpcode_of_haltBug hbug, busRead_of_peek s hop]
  have h1 := fetch8_of_peek (s := { s with haltBug := false, opcodePc := s.pc }) hop
  have h2 := fetch8_of_peek (s := { s with haltBug := false, opcodePc := s.pc, pc := s.pc + 1 }) hb
  rcases instrLength_cases s.params.stopLength op with hn | hn | hn
  · rw [fetchInstr_of_length_one h0 hn]
    exact ⟨rfl, by simp [hn], _, decode_eq_ok_iff.2 ⟨_, .one hn, rfl⟩⟩
  · rw [fetchInstr_of_length_two h0 hn h1]
    exact ⟨rfl, by simp [hn, State.setPc], _, decode_eq_ok_iff.2 ⟨_, .two hn, rfl⟩⟩
  · rw [fetchInstr_of_length_three h0 hn h1 h2]
    exact ⟨rfl, by simp [hn, State.setPc, BitVec.add_assoc], _, decode_eq_ok_iff.2 ⟨_, .three hn, rfl⟩⟩

end Sys2Proof.Proofs

/-! # The operand fields (R103, R104)

O12 and O13: an 8-bit operand is a register or the byte at HL, a pair is the view of its halves. -/

namespace Sys2Proof.Machine

open Stated

theorem hi8_eq_high (w : Word) : hi8 w = high w := by
  have hw := w.isLt
  apply BitVec.eq_of_toNat_eq
  rw [hi8_toNat, high, BitVec.toNat_ofNat]
  omega

theorem lo8_eq_low (w : Word) : lo8 w = low w := by
  apply BitVec.eq_of_toNat_eq
  rw [lo8_toNat, low, BitVec.toNat_ofNat]
  omega

end Sys2Proof.Machine

namespace Sys2Proof.Proofs

open Machine

/-- Settles O12, one value of the field at a time. -/
theorem registerOperandsAreTheNamedRegisters : Obligations.RegisterOperandsAreTheNamedRegisters := fun _ _ =>
  ⟨⟨rfl, rfl, rfl, rfl, rfl, rfl, rfl, rfl⟩, rfl, rfl, rfl, rfl, rfl, rfl, rfl, rfl⟩

/-- Settles O13, one value of each field at a time. -/
theorem pairsAreViewsOfTheirHalves : Obligations.PairsAreViewsOfTheirHalves := by
  intro v s
  simp only [← hi8_eq_high, ← lo8_eq_low]
  exact ⟨⟨rfl, rfl, rfl, rfl⟩, ⟨rfl, rfl, rfl, rfl⟩, ⟨rfl, rfl, rfl, rfl⟩, rfl, rfl, rfl, rfl⟩

end Sys2Proof.Proofs

/-! # The 8-bit loads (R200 to R215)

O29 to O33: the bytes of each form, and the state its equation `exec_…` leaves, with the addresses and the halves of
a word as the statements write them. -/

namespace Sys2Proof.Machine

open Stated

/-- The one byte of LD r8,r8' holds both operand fields, also where they are both (HL) and it is HALT's (R200). -/
theorem encode_ldR8R8 (y z : R8) : encode (.ldR8R8 y z) = [0b01#2 ++ code y ++ code z] := by
  cases y <;> cases z <;> rfl

theorem encode_ldR8D8 (y : R8) (d8 : Byte) : encode (.ldR8D8 y d8) = [0b00#2 ++ code y ++ 0b110#3, d8] := by
  cases y <;> rfl

/-- An address in page 0xFF00 has its offset as low byte (R107). -/
theorem pageAddr_eq_append (n : Byte) : pageAddr n = 0xFF#8 ++ n := by
  revert n
  decide

end Sys2Proof.Machine

namespace Sys2Proof.Proofs

open Machine

/-- Settles O29, by the encoding and the meaning of the family. -/
theorem loadRegisterFromRegister : Obligations.LoadRegisterFromRegister :=
  ⟨rfl, fun y z s h => ⟨encode_ldR8R8 y z, exec_ldR8R8 s h⟩⟩

/-- Settles O30, by the encoding and the meaning of the family. -/
theorem loadRegisterImmediate : Obligations.LoadRegisterImmediate := fun y n s =>
  ⟨encode_ldR8D8 y n, exec_ldR8D8 s y n⟩

/-- Settles O31, one form at a time. -/
theorem accumulatorLoadsReadTheirAddress : Obligations.AccumulatorLoadsReadTheirAddress := by
  intro a16 a8 s
  simp only [← pageAddr_eq_append, ← lo8_eq_low, ← hi8_eq_high]
  exact ⟨⟨rfl, exec_ldAIndBc s⟩, ⟨rfl, exec_ldAIndDe s⟩, ⟨rfl, exec_ldAIndA16 s a16⟩, ⟨rfl, exec_ldhAIndA8 s a8⟩,
    rfl, exec_ldAIndC s⟩

/-- Settles O32, one form at a time. -/
theorem accumulatorStoresWriteTheirAddress : Obligations.AccumulatorStoresWriteTheirAddress := by
  intro a16 a8 s
  simp only [← pageAddr_eq_append, ← lo8_eq_low, ← hi8_eq_high]
  exact ⟨⟨rfl, exec_ldIndBcA s⟩, ⟨rfl, exec_ldIndDeA s⟩, ⟨rfl, exec_ldIndA16A s a16⟩, ⟨rfl, exec_ldhIndA8A s a8⟩,
    rfl, exec_ldIndCA s⟩

/-- Settles O33, one form at a time: HL is stepped after the access, which leaves H and L alone. -/
theorem hlLoadsAndStoresStepHl : Obligations.HlLoadsAndStoresStepHl := by
  intro s
  simp only [← lo8_eq_low, ← hi8_eq_high]
  exact ⟨⟨rfl, exec_ldIndHlIncA s⟩, ⟨rfl, exec_ldIndHlDecA s⟩, ⟨rfl, exec_ldAIndHlInc s⟩, rfl, exec_ldAIndHlDec s⟩

end Sys2Proof.Proofs

/-! # The 16-bit loads and the stack (R250 to R255)

O34 and O35: a push and a pop are the accesses of R14 with SP moved once, so where the two stack bytes are the block's
own a pop gives back the word that was pushed. -/

namespace Sys2Proof.Machine

open Stated

/-! ## The bytes of each family -/

theorem encode_ldRpD16 (p : Rp) (d16 : Word) :
    encode (.ldRpD16 p d16) = [0b00#2 ++ codeRp p ++ 0b0001#4, lo8 d16, hi8 d16] := by
  cases p <;> rfl

theorem encode_pushRp2 (p : Rp2) : encode (.pushRp2 p) = [0b11#2 ++ codeRp2 p ++ 0b0101#4] := by
  cases p <;> rfl

theorem encode_popRp2 (p : Rp2) : encode (.popRp2 p) = [0b11#2 ++ codeRp2 p ++ 0b0001#4] := by
  cases p <;> rfl

/-! ## SP beside the accesses

No access depends on SP or moves it, so it makes no difference whether SP is moved before or after one. -/

variable (s : State)

theorem busWrite_setSp (a : Word) (v : Byte) (w : Word) : busWrite a v (s.setSp w) = (busWrite a v s).setSp w := by
  cases h : regionOf a <;> simp only [busWrite, h] <;> rfl

theorem busRead_setSp (a w : Word) : busRead a (s.setSp w) = ((busRead a s).1, (busRead a s).2.setSp w) := by
  cases hp : peek a s with
  | none =>
    have hr := peek_eq_none_iff.1 hp
    rw [busRead_of_external s hr, busRead_of_external _ hr]
    rfl
  | some v => rw [busRead_of_peek s hp, busRead_of_peek (s.setSp w) hp]

theorem writeRp2_setSp (p : Rp2) (v w : Word) : writeRp2 p v (s.setSp w) = (writeRp2 p v s).setSp w := by
  cases p <;> rfl

theorem push16_eq_pushed (v : Word) : push16 v s = pushed v s := by
  rw [push16_eq, busWrite_setSp, busWrite_setSp, busWrite_setSp, lo8_eq_low, hi8_eq_high]
  rfl

theorem pop16_eq_popped : pop16 s = (popped s, (popHigh s).2.setSp (s.sp + 2#16)) := by
  simp only [pop16, busRead_setSp, State.setSp_sp, busRead_sp, BitVec.add_assoc]
  rfl

/-! ## A pop after a push (R14) -/

/-- Neighbouring addresses are different locations, also at the ends of the echo (R63). -/
theorem location_add_one_ne (a : Word) : location (a + 1#16) ≠ location a := by
  have hnext : (a + 1#16).toNat = (a.toNat + 1) % 65536 := BitVec.toNat_add a 1#16
  simp only [location, hnext]
  split_ifs <;> omega

/-- A pop of two bytes the block owns makes no port access. -/
theorem pop16_of_peek {lo hi : Byte} (hlo : peek s.sp s = some lo) (hhi : peek (s.sp + 1#16) s = some hi) :
    pop16 s = (mk16 hi lo, s.setSp (s.sp + 2#16)) := by
  have hlow : popLow s = (lo, s) := busRead_of_peek s hlo
  have hhigh : popHigh s = (hi, s) := by
    rw [popHigh, hlow]
    exact busRead_of_peek s hhi
  rw [pop16_eq_popped, popped, hlow, hhigh, mk16]

theorem peek_pushed_low (v : Word) (h2 : isRam (s.sp - 2#16)) :
    peek (s.sp - 2#16) (pushed v s) = some (low v) :=
  peek_busWrite_ram _ (low v) (regionOf_of_isRam h2) (regionOf_of_isRam h2)

/-- The low byte's write leaves the high byte, which is at another location. -/
theorem peek_pushed_high (v : Word) (h1 : isRam (s.sp - 1#16)) :
    peek (s.sp - 1#16) (pushed v s) = some (high v) := by
  have hnext : s.sp - 2#16 + 1#16 = s.sp - 1#16 := by bv_omega
  have hne : location (s.sp - 1#16) ≠ location (s.sp - 2#16) := hnext ▸ location_add_one_ne (s.sp - 2#16)
  calc peek (s.sp - 1#16) (pushed v s)
      = peek (s.sp - 1#16) (busWrite (s.sp - 1#16) (high v) s) := peek_busWrite_of_location_ne _ _ hne
    _ = some (high v) := peek_busWrite_ram s (high v) (regionOf_of_isRam h1) (regionOf_of_isRam h1)

/-- The count of the push, which stands between the two, is nothing the pop reads. -/
theorem pop16_pushed (v : Word) (h1 : isRam (s.sp - 1#16)) (h2 : isRam (s.sp - 2#16)) (n : BitVec 32) :
    pop16 ((pushed v s).setCycles n) = (v, ((pushed v s).setCycles n).setSp s.sp) := by
  have hsp : ((pushed v s).setCycles n).sp = s.sp - 2#16 := rfl
  have hhigh : s.sp - 2#16 + 1#16 = s.sp - 1#16 := by bv_omega
  have hback : s.sp - 2#16 + 2#16 = s.sp := by bv_omega
  rw [pop16_of_peek (lo := low v) (hi := high v), hsp, hback, ← lo8_eq_low, ← hi8_eq_high, mk16_hi8_lo8]
  · exact hsp ▸ peek_pushed_low s v h2
  · rw [hsp, hhigh]
    exact peek_pushed_high s v h1

/-- A mask that F already meets (R33) changes nothing. -/
theorem and_high_nibble_of_low_nibble {f : Byte} (h : f &&& 0x0F#8 = 0#8) : f &&& 0xF0#8 = f := by
  revert f
  decide

/-- A pair written with a word that was read from it reads as that word; for AF, if F had its low nibble zero (R33). -/
theorem readRp2_writeRp2_readRp2 (p : Rp2) (t : State) (h : s.f &&& 0x0F#8 = 0#8) :
    readRp2 p (writeRp2 p (readRp2 p s) t) = readRp2 p s := by
  cases p
  case af => simp [readRp2, writeRp2, State.af, and_high_nibble_of_low_nibble h]
  all_goals simp [readRp2, writeRp2, State.bc, State.de, State.hl]

end Sys2Proof.Machine

namespace Sys2Proof.Proofs

open Machine Stated

/-- Settles O34, one form at a time. -/
theorem sixteenBitLoads : Obligations.SixteenBitLoads := by
  intro p n a16 s
  simp only [← lo8_eq_low, ← hi8_eq_high]
  exact ⟨⟨encode_ldRpD16 p n, exec_ldRpD16 s p n⟩, ⟨rfl, exec_ldIndA16Sp s a16⟩, rfl, exec_ldSpHl s⟩

/-- Settles O35: the push and the pop in the terms of R14, then the pop of a pushed word. -/
theorem pushAndPop : Obligations.PushAndPop := by
  have hpush (p : Rp2) (s : State) :
      exec (.pushRp2 p) s = .next ((pushed (readRp2 p s) s).setCycles 16#32) := by
    rw [exec_pushRp2, push16_eq_pushed, done]
  refine ⟨fun p s => ⟨⟨encode_pushRp2 p, hpush p s⟩, encode_popRp2 p, ?pop⟩, fun p s hf h1 h2 => ?roundTrip⟩
  case pop =>
    rw [exec_popRp2, pop16_eq_popped, writeRp2_setSp]
    rfl
  case roundTrip =>
    refine ⟨_, _, hpush p s, exec_popRp2 _ p, ?_⟩
    rw [pop16_pushed s (readRp2 p s) h1 h2, writeRp2_setSp]
    exact ⟨readRp2_writeRp2_readRp2 s p _ hf, rfl⟩

end Sys2Proof.Proofs

/-! # 8-bit arithmetic and logic (R300 to R322)

O36 to O42: the flags the model computes, as the byte the statements write for F; an operation on A is then one
equation for all its operands, and the decimal adjustment of a sum is a fact about its two digits. -/

namespace Sys2Proof.Machine

open Stated

/-! ## F as a byte (R33) -/

@[simp] theorem State.setCycles_flags (s : State) (n : BitVec 32) : (s.setCycles n).flags = s.flags := rfl

theorem toByte_eq_flagByte (z n h c : Bool) : Flags.toByte ⟨z, n, h, c⟩ = flagByte z n h c := by
  revert z n h c
  decide

/-- The mask of a write of F leaves a byte of four flags alone. -/
theorem setFlags_eq (s : State) (z n h c : Bool) : s.setFlags ⟨z, n, h, c⟩ = { s with f := flagByte z n h c } := by
  have hmask : flagByte z n h c &&& 0xF0#8 = flagByte z n h c := by
    revert z n h c
    decide
  rw [State.setFlags, toByte_eq_flagByte, State.writeF, hmask]

theorem fC_eq (s : State) : fC s = s.flags.c := rfl

/-- Z tests a result, which is 0 exactly if it is 0 as a number. -/
theorem decide_eq_zero (r : Byte) : decide (r = 0#8) = decide (r.toNat = 0) :=
  decide_eq_decide.2 BitVec.toNat_eq

/-- The carry into an addition or subtraction, as a number. -/
theorem bit8_toNat (c : Bool) : (bit8 c).toNat = c.toNat := by
  cases c <;> rfl

/-! ## The operations on A (R301 to R316) -/

/-- The byte A is left with. -/
def aluResult (op : AluOp) (a v : Byte) (cin : Bool) : Byte :=
  match op with
  | .add => a + v
  | .adc => a + v + bit8 cin
  | .sub => a - v
  | .sbc => a - v - bit8 cin
  | .and => a &&& v
  | .xor => a ^^^ v
  | .or => a ||| v
  | .cp => a

/-- The byte F is left with. -/
def aluF (op : AluOp) (a v : Byte) (cin : Bool) : Byte :=
  match op with
  | .add => addFlags a v 0
  | .adc => addFlags a v (bit8 cin).toNat
  | .sub => subFlags a v 0
  | .sbc => subFlags a v (bit8 cin).toNat
  | .and => flagByte (decide ((a &&& v).toNat = 0)) false true false
  | .xor => flagByte (decide ((a ^^^ v).toNat = 0)) false false false
  | .or => flagByte (decide ((a ||| v).toNat = 0)) false false false
  | .cp => subFlags a v 0

variable (s : State)

/-- The statements' F of a sum: Z reads off the exact sum modulo 256 that the result is 0 (R300). -/
theorem setFlags_add8 (a v : Byte) (c : Bool) :
    s.setFlags (add8 a v c).2 = { s with f := addFlags a v (bit8 c).toNat } := by
  have hz : decide (a + v + bit8 c = 0#8) = decide ((a.toNat + v.toNat + c.toNat) % 256 = 0) := by
    rw [decide_eq_zero, BitVec.toNat_add, BitVec.toNat_add, Nat.mod_add_mod, bit8_toNat]
  rw [add8_eq, setFlags_eq, hz, ← bit8_toNat]
  rfl

/-- The statements' F of a difference, whose exact value they move up by 512 to stay in `Nat` (R300). -/
theorem setFlags_sub8 (a v : Byte) (c : Bool) :
    s.setFlags (sub8 a v c).2 = { s with f := subFlags a v (bit8 c).toNat } := by
  have hz : decide (a - v - bit8 c = 0#8) = decide ((a.toNat + 512 - v.toNat - c.toNat) % 256 = 0) := by
    have hv := v.isLt
    have hc := c.toNat_le
    rw [decide_eq_zero, BitVec.toNat_sub, BitVec.toNat_sub, bit8_toNat]
    exact decide_eq_decide.2 (by omega)
  rw [sub8_eq, setFlags_eq, hz, ← bit8_toNat]
  rfl

theorem alu_result (op : AluOp) (a v : Byte) (cin : Bool) : (alu op a v cin).1 = aluResult op a v cin := by
  cases op
  case add | adc => simp [alu, aluResult, add8_eq, bit8]
  case sub | sbc => simp [alu, aluResult, sub8_eq, bit8]
  all_goals rfl

theorem setFlags_alu (op : AluOp) (a v : Byte) (cin : Bool) :
    s.setFlags (alu op a v cin).2 = { s with f := aluF op a v cin } := by
  cases op
  case add | adc => exact setFlags_add8 s a v _
  case sub | sbc | cp => exact setFlags_sub8 s a v _
  case and | xor | or => simp only [alu, aluF, setFlags_eq, decide_eq_zero]

theorem aluA_eq_next (op : AluOp) (v : Byte) (n : BitVec 32) : aluA op v n s =
    .next { s with a := aluResult op s.a v (fC s), f := aluF op s.a v (fC s), cycles := n } := by
  rw [aluA_eq_done, alu_result, setFlags_alu]
  rfl

/-- A read of an operand leaves A and F, so the operation is one of the state before it. -/
theorem exec_aluR8_eq_next (op : AluOp) (z : R8) : exec (.aluR8 op z) s = .next { (readR8 z s).2 with
    a := aluResult op s.a (readR8 z s).1 (fC s), f := aluF op s.a (readR8 z s).1 (fC s),
    cycles := if z = .ind then 8#32 else 4#32 } := by
  rw [exec_aluR8, aluA_eq_next, fC, readR8_a, readR8_f]
  rfl

theorem exec_aluD8_eq_next (op : AluOp) (n : Byte) : exec (.aluD8 op n) s =
    .next { s with a := aluResult op s.a n (fC s), f := aluF op s.a n (fC s), cycles := 8#32 } := by
  rw [exec_aluD8, aluA_eq_next]

/-- CP leaves A (R315). -/
theorem exec_cpR8_eq_next (z : R8) : exec (.aluR8 .cp z) s = .next { (readR8 z s).2 with
    f := subFlags s.a (readR8 z s).1 0, cycles := if z = .ind then 8#32 else 4#32 } := by
  rw [exec_aluR8_eq_next, aluResult, ← readR8_a s z]
  rfl

/-- Bits 7:3 of the forms with an operand: the group and the ALU field (R100, R106). -/
def codeAlu : AluOp → BitVec 5
  | .add => 0b10000#5 | .adc => 0b10001#5 | .sub => 0b10010#5 | .sbc => 0b10011#5
  | .and => 0b10100#5 | .xor => 0b10101#5 | .or => 0b10110#5 | .cp => 0b10111#5

theorem encode_aluR8 (op : AluOp) (z : R8) : encode (.aluR8 op z) = [codeAlu op ++ code z] := by
  cases op <;> cases z <;> rfl

/-! ## INC, DEC, CPL, SCF and CCF (R317, R318, R320 to R322) -/

theorem encode_incR8 (y : R8) : encode (.incR8 y) = [0b00#2 ++ code y ++ 0b100#3] := by
  cases y <;> rfl

theorem encode_decR8 (y : R8) : encode (.decR8 y) = [0b00#2 ++ code y ++ 0b101#3] := by
  cases y <;> rfl

theorem add_one_eq_zero_iff (v : Byte) : v + 1#8 = 0#8 ↔ v.toNat = 0xFF := by
  bv_omega

theorem sub_one_eq_zero_iff (v : Byte) : v - 1#8 = 0#8 ↔ v.toNat = 0x01 := by
  bv_omega

theorem exec_incR8_eq_next (y : R8) : exec (.incR8 y) s =
    .next { writeR8 y ((readR8 y s).1 + 1#8) (readR8 y s).2 with
      f := flagByte (decide ((readR8 y s).1.toNat = 0xFF)) false (decide ((readR8 y s).1.toNat % 16 = 0xF)) (fC s),
      cycles := if y = .ind then 12#32 else 4#32 } := by
  rw [exec_incR8, inc8_eq, setFlags_eq]
  simp only [add_one_eq_zero_iff]
  rfl

theorem exec_decR8_eq_next (y : R8) : exec (.decR8 y) s =
    .next { writeR8 y ((readR8 y s).1 - 1#8) (readR8 y s).2 with
      f := flagByte (decide ((readR8 y s).1.toNat = 0x01)) true (decide ((readR8 y s).1.toNat % 16 = 0x0)) (fC s),
      cycles := if y = .ind then 12#32 else 4#32 } := by
  rw [exec_decR8, dec8_eq, setFlags_eq]
  simp only [sub_one_eq_zero_iff]
  rfl

/-! ## DAA (R319) -/

/-- Whether DAA adjusts the high digit, which is flag C after it. -/
def daaCarry (a : Byte) (fl : Flags) : Bool := fl.c || (!fl.n && decide (a.toNat > 0x99))

/-- The byte DAA leaves in A. -/
def daaResult (a : Byte) (fl : Flags) : Byte :=
  if fl.n then a - (if fl.c then 0x60#8 else 0#8) - (if fl.h then 0x06#8 else 0#8)
  else a + (if daaCarry a fl then 0x60#8 else 0#8) +
    (if fl.h || decide (a.toNat % 16 > 0x09) then 0x06#8 else 0#8)

/-- Narrowing an exact difference is the wrapping difference of what is narrowed (R10). -/
theorem ofInt_sub (n : Nat) (x y : Int) : BitVec.ofInt n (x - y) = BitVec.ofInt n x - BitVec.ofInt n y := by
  have h := BitVec.ofInt_add (n := n) (x - y) y
  rw [Int.sub_add_cancel] at h
  rw [h, BitVec.add_sub_cancel]

/-- The model tests A as the exact `Int` it adjusts, the statements as a `Nat` (R319). -/
theorem decide_exact_gt (a : Byte) : decide ((a.toNat : Int) > 0x99) = decide (a.toNat > 0x99) :=
  decide_eq_decide.2 (by omega)

theorem daa_carry (a : Byte) (fl : Flags) : (daa a fl).2.c = daaCarry a fl := by
  rw [daaCarry, ← decide_exact_gt]
  rfl

/-- The exact sum of R319, narrowed at its end, is the wrapping sum of what is added or subtracted. -/
theorem daa_result (a : Byte) (fl : Flags) : (daa a fl).1 = daaResult a fl := by
  obtain ⟨z, n, h, c⟩ := fl
  cases n
  case false =>
    simp only [daa, daaResult, daaCarry, decide_exact_gt, nibble_eq_mod, Bool.not_false, Bool.true_and,
      Bool.false_eq_true, if_false]
    split_ifs <;> simp [BitVec.ofInt_add]
  case true =>
    simp only [daa, daaResult, Bool.not_true, Bool.false_and, Bool.or_false, if_true]
    split_ifs <;> simp [ofInt_sub]

theorem setFlags_daa (a : Byte) (fl : Flags) : s.setFlags (daa a fl).2 = { s with
    f := flagByte (decide ((daaResult a fl).toNat = 0)) fl.n false (daaCarry a fl) } := by
  have hflags : (daa a fl).2 = ⟨decide ((daa a fl).1 = 0#8), fl.n, false, (daa a fl).2.c⟩ := rfl
  rw [hflags, setFlags_eq, daa_result, daa_carry, decide_eq_zero]

theorem exec_daa_eq_next : exec .daa s = .next { s with
    a := daaResult s.a s.flags,
    f := flagByte (decide ((daaResult s.a s.flags).toNat = 0)) (fN s) false (daaCarry s.a s.flags),
    cycles := 4#32 } := by
  rw [exec_daa, daa_result, setFlags_daa]
  rfl

/-! ## DAA after an addition of two packed decimal numbers (R302, R319) -/

/-- The number whose two decimal digits the nibbles of a byte are. -/
def decimal (v : Byte) : Nat := 10 * (v.toNat / 16) + v.toNat % 16

/-- The nibbles of a byte are decimal digits. -/
structure IsDecimal (v : Byte) : Prop where
  high : v.toNat / 16 ≤ 9
  low : v.toNat % 16 ≤ 9

/-- Adding 6 to a sum of low digits and 0x60 to one of high digits carries where the decimal digits do. -/
theorem adjusted_digits {hi lo : Nat} (hhi : hi ≤ 18) (hlo : lo ≤ 18) :
    (16 * hi + lo + (if 100 ≤ 10 * hi + lo then 0x60 else 0) + (if 10 ≤ lo then 0x06 else 0)) % 256 =
      16 * ((10 * hi + lo) / 10 % 10) + (10 * hi + lo) % 10 := by
  split_ifs <;> omega

section

variable {a v : Byte} (ha : IsDecimal a) (hv : IsDecimal v)

include ha hv

/-- The sum of the low digits is above 9: as a carry out of the nibble, or in the nibble left. -/
theorem low_digit_adjusted_iff :
    (15 < a.toNat % 16 + v.toNat % 16 ∨ 9 < (a + v).toNat % 16) ↔ 10 ≤ a.toNat % 16 + v.toNat % 16 := by
  obtain ⟨-, ha0⟩ := ha
  obtain ⟨-, hv0⟩ := hv
  rw [BitVec.toNat_add]
  omega

/-- The decimal sum is above 99: as a carry out of the byte, or in the byte left. -/
theorem high_digit_adjusted_iff :
    (255 < a.toNat + v.toNat ∨ 0x99 < (a + v).toNat) ↔ 100 ≤ decimal a + decimal v := by
  obtain ⟨ha1, ha0⟩ := ha
  obtain ⟨hv1, hv0⟩ := hv
  rw [BitVec.toNat_add]
  simp only [decimal]
  omega

theorem daaCarry_add8 : daaCarry (add8 a v false).1 (add8 a v false).2 = decide (100 ≤ decimal a + decimal v) := by
  simp [← high_digit_adjusted_iff ha hv, add8_eq, daaCarry, bit8]

theorem daaResult_add8 : daaResult (add8 a v false).1 (add8 a v false).2 =
    a + v + (if 100 ≤ decimal a + decimal v then 0x60#8 else 0#8) +
      (if 10 ≤ a.toNat % 16 + v.toNat % 16 then 0x06#8 else 0#8) := by
  simp only [daaResult, daaCarry_add8 ha hv, ← low_digit_adjusted_iff ha hv]
  simp [add8_eq, bit8]

theorem daaResult_add8_toNat : (daaResult (add8 a v false).1 (add8 a v false).2).toNat =
    16 * ((decimal a + decimal v) / 10 % 10) + (decimal a + decimal v) % 10 := by
  rw [daaResult_add8 ha hv]
  obtain ⟨ha1, ha0⟩ := ha
  obtain ⟨hv1, hv0⟩ := hv
  have hdecimal : decimal a + decimal v = 10 * (a.toNat / 16 + v.toNat / 16) + (a.toNat % 16 + v.toNat % 16) := by
    simp only [decimal]
    omega
  have hbinary : a.toNat + v.toNat = 16 * (a.toNat / 16 + v.toNat / 16) + (a.toNat % 16 + v.toNat % 16) := by omega
  rw [hdecimal, ← adjusted_digits (by omega) (by omega), ← hbinary]
  simp [apply_ite BitVec.toNat]

end

end Sys2Proof.Machine

namespace Sys2Proof.Proofs

open Machine

/-- Settles O36, by the encoding and the meaning of the family. -/
theorem additionsToA : Obligations.AdditionsToA := fun z n s =>
  ⟨⟨encode_aluR8 .add z, exec_aluR8_eq_next s .add z⟩, ⟨encode_aluR8 .adc z, exec_aluR8_eq_next s .adc z⟩,
    ⟨rfl, exec_aluD8_eq_next s .add n⟩, rfl, exec_aluD8_eq_next s .adc n⟩

/-- Settles O37, by the encoding and the meaning of the family. -/
theorem subtractionsFromA : Obligations.SubtractionsFromA := fun z n s =>
  ⟨⟨encode_aluR8 .sub z, exec_aluR8_eq_next s .sub z⟩, ⟨encode_aluR8 .sbc z, exec_aluR8_eq_next s .sbc z⟩,
    ⟨encode_aluR8 .cp z, exec_cpR8_eq_next s z⟩, ⟨rfl, exec_aluD8_eq_next s .sub n⟩,
    ⟨rfl, exec_aluD8_eq_next s .sbc n⟩, rfl, exec_aluD8_eq_next s .cp n⟩

/-- Settles O38, by the encoding and the meaning of the family. -/
theorem logicOnA : Obligations.LogicOnA := fun z n s =>
  ⟨⟨encode_aluR8 .and z, exec_aluR8_eq_next s .and z⟩, ⟨encode_aluR8 .xor z, exec_aluR8_eq_next s .xor z⟩,
    ⟨encode_aluR8 .or z, exec_aluR8_eq_next s .or z⟩, ⟨rfl, exec_aluD8_eq_next s .and n⟩,
    ⟨rfl, exec_aluD8_eq_next s .xor n⟩, rfl, exec_aluD8_eq_next s .or n⟩

/-- Settles O39, by the encoding and the meaning of the two families. -/
theorem incrementAndDecrementKeepCarry : Obligations.IncrementAndDecrementKeepCarry := fun y s =>
  ⟨⟨encode_incR8 y, exec_incR8_eq_next s y⟩, encode_decR8 y, exec_decR8_eq_next s y⟩

/-- Settles O40, by the exact sums of R319 in wrapping arithmetic (`daa_result`). -/
theorem decimalAdjust : Obligations.DecimalAdjust := fun s => ⟨rfl, exec_daa_eq_next s⟩

/-- Settles O41: DAA reads A and the flags that ADD wrote, and the sums of the digits say what it adjusts. -/
theorem decimalAdjustGivesThePackedSum : Obligations.DecimalAdjustGivesThePackedSum := by
  intro s n hs1 hs0 hn1 hn0
  have hs : IsDecimal s.a := ⟨hs1, hs0⟩
  have hn : IsDecimal n := ⟨hn1, hn0⟩
  refine ⟨_, _, exec_aluD8 s .add n, exec_daa _, ?digits, ?carry⟩
  case digits => simpa [alu, daa_result, decimal] using daaResult_add8_toNat hs hn
  case carry =>
    simp only [fC_eq, State.setCycles_flags, flags_setFlags, daa_carry]
    exact daaCarry_add8 hs hn

/-- Settles O42, one form at a time: only F needs its flags written as a byte, and CPL inverts every bit. -/
theorem complementAndCarryFlag : Obligations.ComplementAndCarryFlag := by
  intro s
  refine ⟨⟨rfl, ?cpl⟩, ⟨rfl, ?scf⟩, rfl, ?ccf⟩
  case cpl =>
    rw [exec_cpl, setFlags_eq, ← BitVec.xor_allOnes]
    rfl
  case scf =>
    rw [exec_scf, setFlags_eq]
    rfl
  case ccf =>
    rw [exec_ccf, setFlags_eq]
    rfl

end Sys2Proof.Proofs

/-! # 16-bit arithmetic (R350 to R355)

O43 and O44: the carries of a sum of words are those of its exact sum, and a displacement of SP is the number its byte
stands for, while the flags come from the low byte of SP and the raw byte. -/

namespace Sys2Proof.Machine

open Stated

/-! ## The bytes of each family -/

theorem encode_incRp (p : Rp) : encode (.incRp p) = [0b00#2 ++ codeRp p ++ 0b0011#4] := by
  cases p <;> rfl

theorem encode_decRp (p : Rp) : encode (.decRp p) = [0b00#2 ++ codeRp p ++ 0b1011#4] := by
  cases p <;> rfl

theorem encode_addHlRp (p : Rp) : encode (.addHlRp p) = [0b00#2 ++ codeRp p ++ 0b1001#4] := by
  cases p <;> rfl

variable (s : State)

/-! ## ADD HL,rr (R352) -/

/-- The write of HL leaves F, so the Z that is kept is the one before the instruction. -/
theorem exec_addHlRp_eq_next (p : Rp) : exec (.addHlRp p) s = .next { s with
    h := hi8 (s.hl + readRp p s), l := lo8 (s.hl + readRp p s),
    f := flagByte (fZ s) false (decide (s.hl.toNat % 4096 + (readRp p s).toNat % 4096 ≥ 4096))
      (decide (s.hl.toNat + (readRp p s).toNat ≥ 65536)),
    cycles := 8#32 } := by
  rw [exec_addHlRp, addHl_eq, setFlags_eq]
  rfl

/-! ## SP plus a displacement (R353) -/

/-- SP moved by a byte read as signed: a byte from 0x80 up stands for the number 0x100 below it. -/
def displaced (sp : Word) (e : Byte) : Word :=
  if e.toNat < 0x80 then sp + e.setWidth 16 else sp + (e.setWidth 16 + 0xFF00#16)

/-- F after `sp_plus_e8(e)`: the carries of the unsigned sum of the low byte of SP and the raw byte. -/
def displacedF (sp : Word) (e : Byte) : Byte :=
  flagByte false false (decide (sp.toNat % 16 + e.toNat % 16 > 0x0F)) (decide (sp.toNat % 256 + e.toNat > 0xFF))

/-- The sign bit of a byte adds the high byte 0xFF to its unsigned value (R10). -/
theorem sext16_eq (e : Byte) : sext16 e = if e.toNat < 0x80 then e.setWidth 16 else e.setWidth 16 + 0xFF00#16 := by
  apply BitVec.eq_of_toNat_eq
  rw [sext16, BitVec.toNat_signExtend, BitVec.msb_eq_decide]
  by_cases h : e.toNat < 0x80
  case pos => simp [h]
  case neg =>
    have hsign : 0x80 ≤ e.toNat := not_lt.1 h
    have hbyte := e.isLt
    simp [hsign, h]
    omega

theorem add_sext16 (sp : Word) (e : Byte) : sp + sext16 e = displaced sp e := by
  rw [sext16_eq, add_ite]
  rfl

/-- The low `k` bits of a word are its remainder modulo `2 ^ k`. -/
theorem toNat_and_mask (w : Word) {m : Word} {k : Nat} (hm : m.toNat = 2 ^ k - 1) :
    (w &&& m).toNat = w.toNat % 2 ^ k := by
  rw [BitVec.toNat_and, hm, Nat.and_two_pow_sub_one_eq_mod]

/-- `sp_plus_e8` is the displaced SP with the carries of the unsigned sum of the low bytes (R353). -/
theorem spPlusE8_eq (sp : Word) (e : Byte) :
    spPlusE8 sp e = (displaced sp e, ⟨false, false, decide (sp.toNat % 16 + e.toNat % 16 > 0x0F),
      decide (sp.toNat % 256 + e.toNat > 0xFF)⟩) := by
  have hnibble : (sp &&& 0x000F#16).toNat = sp.toNat % 16 := toNat_and_mask sp (k := 4) rfl
  have hbyte : (sp &&& 0x00FF#16).toNat = sp.toNat % 256 := toNat_and_mask sp (k := 8) rfl
  rw [spPlusE8, add_sext16, hnibble, hbyte, nibble_eq_mod]

theorem exec_addSpE8_eq_next (e : Byte) : exec (.addSpE8 e) s =
    .next { s with sp := displaced s.sp e, f := displacedF s.sp e, cycles := 16#32 } := by
  rw [exec_addSpE8, spPlusE8_eq, setFlags_eq]
  rfl

theorem exec_ldHlSpE8_eq_next (e : Byte) : exec (.ldHlSpE8 e) s = .next { s with
    h := hi8 (displaced s.sp e), l := lo8 (displaced s.sp e), f := displacedF s.sp e, cycles := 12#32 } := by
  rw [exec_ldHlSpE8, spPlusE8_eq, setFlags_eq]
  rfl

end Sys2Proof.Machine

namespace Sys2Proof.Proofs

open Machine

/-- Settles O43, by the encoding and the meaning of the three families. -/
theorem sixteenBitArithmeticOnPairs : Obligations.SixteenBitArithmeticOnPairs := by
  intro p s
  simp only [← lo8_eq_low, ← hi8_eq_high]
  exact ⟨⟨encode_incRp p, exec_incRp s p⟩, ⟨encode_decRp p, exec_decRp s p⟩,
    encode_addHlRp p, exec_addHlRp_eq_next s p⟩

/-- Settles O44: the two forms leave the same word and the same flags, in SP or in HL. -/
theorem stackPointerPlusDisplacement : Obligations.StackPointerPlusDisplacement := by
  intro e s
  simp only [← lo8_eq_low, ← hi8_eq_high]
  exact ⟨⟨rfl, exec_addSpE8_eq_next s e⟩, rfl, exec_ldHlSpE8_eq_next s e⟩

end Sys2Proof.Proofs

/-! # Rotates and shifts (R400 to R411)

O45 and O46: a rotate or shift by one place keeps seven bits and takes one bit in at the end they leave, and SWAP keeps
two nibbles; so the shifts and masks of the model are the bits the statements put beside each other. -/

namespace Sys2Proof.Machine

open Stated

/-! ## The result (R404 to R411) -/

theorem bit8_getLsbD (b : Bool) (i : Nat) : (bit8 b).getLsbD i = (decide (i = 0) && b) := by
  cases b <;> simp [bit8]

/-- A shift to the left takes the new bit in below bits 6:0. -/
theorem shiftLeft_or_bit8 (v : Byte) (b : Bool) : v <<< 1 ||| bit8 b = v.extractLsb' 0 7 ++ BitVec.ofBool b := by
  refine BitVec.eq_of_getLsbD_eq fun i hi => ?_
  rw [BitVec.getLsbD_append]
  cases i with
  | zero => simp [-BitVec.getLsbD_eq_getElem, bit8_getLsbD]
  | succ j =>
    have hj : j < 7 := by omega
    simp [-BitVec.getLsbD_eq_getElem, bit8_getLsbD, hj, hi]

/-- A shift to the right takes the new bit in above bits 7:1. -/
theorem ushiftRight_or_bit8 (v : Byte) (b : Bool) :
    v >>> 1 ||| bit8 b <<< 7 = BitVec.ofBool b ++ v.extractLsb' 1 7 := by
  refine BitVec.eq_of_getLsbD_eq fun i hi => ?_
  rw [BitVec.getLsbD_append]
  obtain hi7 | rfl : i < 7 ∨ i = 7 := by omega
  · simp [-BitVec.getLsbD_eq_getElem, bit8_getLsbD, hi7]
  · simp [-BitVec.getLsbD_eq_getElem, bit8_getLsbD]

theorem shiftLeft_or_ushiftRight_four (v : Byte) : v <<< 4 ||| v >>> 4 = v.extractLsb' 0 4 ++ v.extractLsb' 4 4 := by
  refine BitVec.eq_of_getLsbD_eq fun i hi => ?_
  rw [BitVec.getLsbD_append]
  by_cases hi4 : i < 4
  case pos => simp [hi4]
  case neg =>
    have hhigh : i - 4 < 4 := by omega
    have hout : 8 ≤ 4 + i := by omega
    simp [-BitVec.getLsbD_eq_getElem, hi4, hi, hhigh, BitVec.getLsbD_of_ge v _ hout]

theorem and_sign_mask (v : Byte) : v &&& 0x80#8 = bit8 (v.getLsbD 7) <<< 7 := by
  revert v
  decide

/-- The model's result and bit for C are those the statements write bit by bit. -/
theorem rotate_eq_rotated (op : RotOp) (v : Byte) (cin : Bool) : rotate op v cin = rotated op v cin := by
  have hleft : v <<< 1 = v.extractLsb' 0 7 ++ 0#1 := by simpa [bit8] using shiftLeft_or_bit8 v false
  have hright : v >>> 1 = 0#1 ++ v.extractLsb' 1 7 := by simpa [bit8] using ushiftRight_or_bit8 v false
  cases op
  case rlc | rl => simp only [rotate, rotated, shiftLeft_or_bit8]
  case rrc | rr => simp only [rotate, rotated, ushiftRight_or_bit8]
  case sla => simp only [rotate, rotated, hleft]
  case sra => simp only [rotate, rotated, and_sign_mask, ushiftRight_or_bit8]
  case swap => simp only [rotate, rotated, shiftLeft_or_ushiftRight_four]
  case srl => simp only [rotate, rotated, hright]

/-! ## The meaning of each family -/

variable (s : State)

/-- Z is cleared, whatever the result (R400 to R403). -/
theorem rotateA_eq_next (op : RotOp) : rotateA op s = .next { s with
    a := (rotated op s.a (fC s)).1, f := flagByte false false false (rotated op s.a (fC s)).2, cycles := 4#32 } := by
  rw [rotateA_eq_done, ← fC_eq, rotate_eq_rotated, setFlags_eq]
  rfl

/-- The C rotated through is the one before the instruction (R406, R407). -/
theorem exec_rotR8_eq_next (op : RotOp) (z : R8) : exec (.rotR8 op z) s =
    .next { writeR8 z (rotated op (readR8 z s).1 (fC s)).1 (readR8 z s).2 with
      f := flagByte (decide ((rotated op (readR8 z s).1 (fC s)).1.toNat = 0)) false false
        (rotated op (readR8 z s).1 (fC s)).2,
      cycles := if z = .ind then 16#32 else 8#32 } := by
  rw [exec_rotR8, rotR8_eq_done, ← fC_eq, rotate_eq_rotated, setFlags_eq, decide_eq_zero]
  rfl

/-- Bits 5:3 of the byte after 0xCB (R106). -/
def codeRot : RotOp → BitVec 3
  | .rlc => 0b000#3 | .rrc => 0b001#3 | .rl => 0b010#3 | .rr => 0b011#3
  | .sla => 0b100#3 | .sra => 0b101#3 | .swap => 0b110#3 | .srl => 0b111#3

theorem encode_rotR8 (op : RotOp) (z : R8) : encode (.rotR8 op z) = [0xCB#8, 0b00#2 ++ codeRot op ++ code z] := by
  cases op <;> cases z <;> rfl

end Sys2Proof.Machine

namespace Sys2Proof.Proofs

open Machine

/-- Settles O45, by the meaning of the family (`rotateA_eq_next`). -/
theorem accumulatorRotatesClearZero : Obligations.AccumulatorRotatesClearZero := fun s =>
  ⟨⟨rfl, rotateA_eq_next s .rlc⟩, ⟨rfl, rotateA_eq_next s .rrc⟩, ⟨rfl, rotateA_eq_next s .rl⟩,
    rfl, rotateA_eq_next s .rr⟩

/-- Settles O46, by the encoding and the meaning of the family. -/
theorem rotatesAndShiftsOfOperands : Obligations.RotatesAndShiftsOfOperands := fun op z s =>
  ⟨encode_rotR8 op z, exec_rotR8_eq_next s op z⟩

end Sys2Proof.Proofs

/-! # Single-bit test, reset and set (R450 to R452)

O47 and O48: RES and SET mask with the power of two of bit `b`, so the byte each writes is the one byte that the
statements fix bit by bit; BIT only reads the operand. -/

namespace Sys2Proof.Machine

open Stated

/-! ## The bytes of each family (R106): the operation, the bit number and the operand -/

theorem encode_bitR8 (b : Fin 8) (z : R8) : encode (.bitR8 b z) = [0xCB#8, 0b01#2 ++ BitVec.ofNat 3 b ++ code z] := by
  fin_cases b <;> cases z <;> rfl

theorem encode_resR8 (b : Fin 8) (z : R8) : encode (.resR8 b z) = [0xCB#8, 0b10#2 ++ BitVec.ofNat 3 b ++ code z] := by
  fin_cases b <;> cases z <;> rfl

theorem encode_setR8 (b : Fin 8) (z : R8) : encode (.setR8 b z) = [0xCB#8, 0b11#2 ++ BitVec.ofNat 3 b ++ code z] := by
  fin_cases b <;> cases z <;> rfl

/-! ## The byte written (R451, R452) -/

theorem one_shiftLeft_getLsbD (b j : Fin 8) : (1#8 <<< b.val).getLsbD j = decide (j = b) := by
  rw [← BitVec.twoPow_eq, BitVec.getLsbD_twoPow]
  simp [Fin.ext_iff, eq_comm]

theorem byte_eq_of_bits {v r : Byte} (h : ∀ j : Fin 8, v.getLsbD j = r.getLsbD j) : v = r :=
  BitVec.eq_of_getLsbD_eq fun i hi => h ⟨i, hi⟩

theorem cleared_bit_eq {v r : Byte} {b : Fin 8} (h : ∀ j : Fin 8, r.getLsbD j = (v.getLsbD j && decide (j ≠ b))) :
    v &&& ~~~(1#8 <<< b.val) = r := by
  refine byte_eq_of_bits fun j => ?_
  rw [h, BitVec.getLsbD_and, BitVec.getLsbD_not, one_shiftLeft_getLsbD]
  simp

theorem added_bit_eq {v r : Byte} {b : Fin 8} (h : ∀ j : Fin 8, r.getLsbD j = (v.getLsbD j || decide (j = b))) :
    v ||| 1#8 <<< b.val = r := by
  refine byte_eq_of_bits fun j => ?_
  rw [h, BitVec.getLsbD_or, one_shiftLeft_getLsbD]

/-! ## The meaning of each family -/

variable (s : State)

theorem exec_bitR8_eq_next (b : Fin 8) (z : R8) : exec (.bitR8 b z) s = .next { (readR8 z s).2 with
    f := flagByte (!(readR8 z s).1.getLsbD b) false true (fC s), cycles := if z = .ind then 12#32 else 8#32 } := by
  rw [exec_bitR8, bitR8_eq_done, setFlags_eq]
  rfl

/-- The state after RES or SET has written the byte `r` back to the operand `z`. -/
def rewritten (z : R8) (r : Byte) (s : State) : State :=
  { writeR8 z r (readR8 z s).2 with cycles := if z = .ind then 16#32 else 8#32 }

variable {r : Byte}

theorem exec_resR8_eq_next {b : Fin 8} (z : R8)
    (h : ∀ j : Fin 8, r.getLsbD j = ((readR8 z s).1.getLsbD j && decide (j ≠ b))) :
    exec (.resR8 b z) s = .next (rewritten z r s) := by
  rw [exec_resR8, resR8_eq_done, cleared_bit_eq h]
  rfl

theorem exec_setR8_eq_next {b : Fin 8} (z : R8)
    (h : ∀ j : Fin 8, r.getLsbD j = ((readR8 z s).1.getLsbD j || decide (j = b))) :
    exec (.setR8 b z) s = .next (rewritten z r s) := by
  rw [exec_setR8, setR8_eq_done, added_bit_eq h]
  rfl

end Sys2Proof.Machine

namespace Sys2Proof.Proofs

open Machine

/-- Settles O47, by the encoding and the meaning of the family. -/
theorem bitTestKeepsTheOperand : Obligations.BitTestKeepsTheOperand := fun b z s =>
  ⟨encode_bitR8 b z, exec_bitR8_eq_next s b z⟩

/-- Settles O48: the byte that the statement fixes bit by bit is the masked byte that each family writes. -/
theorem bitResetAndSetChangeOneBit : Obligations.BitResetAndSetChangeOneBit := fun b z s =>
  ⟨encode_resR8 b z, encode_setR8 b z, fun _ => ⟨exec_resR8_eq_next s z, exec_setR8_eq_next s z⟩⟩

end Sys2Proof.Proofs

/-! # Jumps, calls and returns (R500 to R510)

O49 to O51: the bytes of each form, and the state its equation `exec_…` leaves, with the displaced PC and the stack
accesses as the statements write them. -/

namespace Sys2Proof.Machine

open Stated

/-! ## The bytes of each family -/

theorem encode_jpCc (cc : Cc) (a16 : Word) :
    encode (.jpCc cc a16) = [0b110#3 ++ codeCc cc ++ 0b010#3, lo8 a16, hi8 a16] := by
  cases cc <;> rfl

theorem encode_jrCc (cc : Cc) (e : Byte) : encode (.jrCc cc e) = [0b001#3 ++ codeCc cc ++ 0b000#3, e] := by
  cases cc <;> rfl

theorem encode_callCc (cc : Cc) (a16 : Word) :
    encode (.callCc cc a16) = [0b110#3 ++ codeCc cc ++ 0b100#3, lo8 a16, hi8 a16] := by
  cases cc <;> rfl

theorem encode_rst (y : Fin 8) : encode (.rst y) = [0b11#2 ++ BitVec.ofNat 3 y ++ 0b111#3] := by
  fin_cases y <;> rfl

theorem encode_retCc (cc : Cc) : encode (.retCc cc) = [0b110#3 ++ codeCc cc ++ 0b000#3] := by
  cases cc <;> rfl

/-! ## The meaning of each family -/

variable (s : State)

/-- A conditional form ends in one of two states, each with its own count. -/
theorem done_ite (p : Prop) [Decidable p] (m n : BitVec 32) (t u : State) :
    done (if p then m else n) (if p then t else u) = .next (if p then t.setCycles m else u.setCycles n) := by
  split <;> rfl

theorem exec_jpCc_eq_next (cc : Cc) (a16 : Word) : exec (.jpCc cc a16) s =
    .next (if holds cc s then { s with pc := a16, cycles := 16#32 } else { s with cycles := 12#32 }) := by
  rw [exec_jpCc, jpCc_eq_done, done_ite]
  rfl

theorem exec_jrE8_eq_next (e : Byte) :
    exec (.jrE8 e) s = .next { s with pc := displaced s.pc e, cycles := 12#32 } := by
  rw [exec_jrE8, add_sext16]
  rfl

theorem exec_jrCc_eq_next (cc : Cc) (e : Byte) : exec (.jrCc cc e) s =
    .next (if holds cc s then { s with pc := displaced s.pc e, cycles := 12#32 } else { s with cycles := 8#32 }) := by
  rw [exec_jrCc, jrCc_eq_done, done_ite, add_sext16]
  rfl

theorem call_eq_pushed (target : Word) : call target s = (pushed s.pc s).setPc target := by
  rw [call_eq, push16_eq_pushed]

theorem exec_callA16_eq_next (a16 : Word) :
    exec (.callA16 a16) s = .next { pushed s.pc s with pc := a16, cycles := 24#32 } := by
  rw [exec_callA16, call_eq_pushed]
  rfl

theorem exec_callCc_eq_next (cc : Cc) (a16 : Word) : exec (.callCc cc a16) s =
    .next (if holds cc s then { pushed s.pc s with pc := a16, cycles := 24#32 } else { s with cycles := 12#32 }) := by
  rw [exec_callCc, callCc_eq_done, done_ite, call_eq_pushed]
  rfl

theorem exec_rst_eq_next (y : Fin 8) :
    exec (.rst y) s = .next { pushed s.pc s with pc := BitVec.ofNat 16 (8 * y), cycles := 16#32 } := by
  rw [exec_rst, call_eq_pushed]
  rfl

/-- The state after a return, but for its count. -/
theorem ret_eq_popped : ret s = { (popHigh s).2 with pc := popped s, sp := s.sp + 2#16 } := by
  rw [ret_eq, pop16_eq_popped]
  rfl

theorem exec_ret_eq_next : exec .ret s =
    .next { (popHigh s).2 with pc := popped s, sp := s.sp + 2#16, cycles := 16#32 } := by
  rw [exec_ret, ret_eq_popped]
  rfl

theorem exec_retCc_eq_next (cc : Cc) : exec (.retCc cc) s =
    .next (if holds cc s then { (popHigh s).2 with pc := popped s, sp := s.sp + 2#16, cycles := 20#32 }
      else { s with cycles := 8#32 }) := by
  rw [exec_retCc, retCc_eq_done, done_ite, ret_eq_popped]
  rfl

/-- RETI is RET and an IME of 1 (R509). -/
theorem exec_reti_eq_next : exec .reti s =
    .next { (popHigh s).2 with pc := popped s, sp := s.sp + 2#16, cycles := 16#32, ime := true } := by
  rw [exec_reti, returnFromInterrupt_eq, ← ret_eq, ret_eq_popped]
  rfl

end Sys2Proof.Machine

namespace Sys2Proof.Proofs

open Machine

/-- Settles O49, one form at a time. -/
theorem jumpsGoToTheirTarget : Obligations.JumpsGoToTheirTarget := by
  intro cc a16 e s
  simp only [← lo8_eq_low, ← hi8_eq_high]
  exact ⟨⟨rfl, exec_jpA16 s a16⟩, ⟨encode_jpCc cc a16, exec_jpCc_eq_next s cc a16⟩, ⟨rfl, exec_jpHl s⟩,
    ⟨rfl, exec_jrE8_eq_next s e⟩, encode_jrCc cc e, exec_jrCc_eq_next s cc e⟩

/-- Settles O50, one form at a time. -/
theorem callsAndRestartsPushTheReturnAddress : Obligations.CallsAndRestartsPushTheReturnAddress := by
  intro cc y a16 s
  simp only [← lo8_eq_low, ← hi8_eq_high]
  exact ⟨⟨rfl, exec_callA16_eq_next s a16⟩, ⟨encode_callCc cc a16, exec_callCc_eq_next s cc a16⟩,
    encode_rst y, exec_rst_eq_next s y⟩

/-- Settles O51, one form at a time. -/
theorem returnsPopTheReturnAddress : Obligations.ReturnsPopTheReturnAddress := fun cc s =>
  ⟨⟨rfl, exec_ret_eq_next s⟩, ⟨encode_retCc cc, exec_retCc_eq_next s cc⟩, rfl, exec_reti_eq_next s⟩

end Sys2Proof.Proofs

/-! # The end of a run (R590)

O28: a jump to itself leaves what observe() shows but for the driver's bookkeeping, and a fetch decodes the bytes it
reads, so where a state holds those bytes the next fetch gives the same jump. -/

namespace Sys2Proof.Machine

open Stated

variable {s t : State}

/-! ## The bytes a fetch reads (R102, R114) -/

/-- The bytes that the fetch of a longest instruction reads; a shorter one reads the first of them. -/
def bytesRead (s : State) : List Byte :=
  [(fetchOpcode s).1, (fetch8 (fetchOpcode s).2).1, (fetch8 (fetch8 (fetchOpcode s).2).2).1]

/-- What a fetch gives is what the bytes it reads decode to. -/
theorem fetchInstr_decodes (s : State) : ∃ bs, Decodes s.params.stopLength bs (fetchInstr s).instr ∧
    bs.headD 0#8 = (fetchInstr s).op ∧ bs <+: bytesRead s := by
  rcases instrLength_cases s.params.stopLength (fetchOpcode s).1 with hn | hn | hn
  · rw [fetchInstr_of_length_one rfl hn]
    exact ⟨_, .one hn, rfl, _, rfl⟩
  · rw [fetchInstr_of_length_two rfl hn rfl]
    exact ⟨_, .two hn, rfl, _, rfl⟩
  · rw [fetchInstr_of_length_three rfl hn rfl rfl]
    exact ⟨_, .three hn, rfl, _, rfl⟩

/-- A fetched instruction is well-formed, its encoding is the bytes the fetch read and its opcode the first of them. -/
theorem fetchInstr_encode (s : State) : (fetchInstr s).instr.wf s.params.stopLength = true ∧
    (encode (fetchInstr s).instr).headD 0#8 = (fetchInstr s).op ∧ encode (fetchInstr s).instr <+: bytesRead s := by
  obtain ⟨bs, hd, hrest⟩ := fetchInstr_decodes s
  obtain ⟨hwf, rfl⟩ := hd.encode_eq
  exact ⟨hwf, hrest⟩

theorem fetchOpcode_pc_of_no_haltBug (hbug : s.haltBug = false) : (fetchOpcode s).2.pc = s.pc + 1#16 := by
  rw [fetchOpcode_of_no_haltBug hbug]
  rfl

/-- A byte that `s` holds is read in a state with the same memory, parameters and interrupt registers. -/
theorem fetch8_eq_of_byteAt {a : Word} {v : Byte} (h : byteAt a s = some v) (hpc : t.pc = a) (hmem : t.mem = s.mem)
    (hparams : t.params = s.params) (hie : t.ie = s.ie) (hif : t.iflag = s.iflag) : (fetch8 t).1 = v := by
  have ht : byteAt t.pc t = some v := by rw [hpc, byteAt_eq_of_fields_eq hmem hparams hie hif, h]
  rw [fetch8, busRead_of_byteAt ht]

theorem bytesRead_getElem_of_byteAt (hbug : s.haltBug = false) {k : Nat} (hk : k < (bytesRead s).length) {v : Byte}
    (h : byteAt (s.pc + BitVec.ofNat 16 k) s = some v) : (bytesRead s)[k] = v := by
  have hpc := fetchOpcode_pc_of_no_haltBug hbug
  match k, hk with
  | 0, _ =>
    rw [BitVec.add_zero] at h
    exact congrArg Prod.fst (fetchOpcode_of_byteAt hbug h)
  | 1, _ => exact fetch8_eq_of_byteAt h hpc (by simp) (by simp) (by simp) (by simp)
  | 2, _ =>
    have hpc2 : (fetch8 (fetchOpcode s).2).2.pc = s.pc + 2#16 := by simp [hpc, BitVec.add_assoc]
    exact fetch8_eq_of_byteAt h hpc2 (by simp) (by simp) (by simp) (by simp)

/-- Each byte of the instruction the next step fetches is the block's own or one the collaborators are loaded with. -/
def State.HoldsItsBytes (s : State) : Prop :=
  ∀ k, k < (encode (fetchInstr s).instr).length → (byteAt (s.pc + BitVec.ofNat 16 k) s).isSome = true

/-- The bytes a state holds where it fetches an instruction are the instruction's encoding. -/
theorem State.HoldsItsBytes.byteAt_eq (h : s.HoldsItsBytes) (hbug : s.haltBug = false) (k : Nat)
    (hk : k < (encode (fetchInstr s).instr).length) :
    byteAt (s.pc + BitVec.ofNat 16 k) s = some (encode (fetchInstr s).instr)[k] := by
  obtain ⟨-, -, hpre⟩ := fetchInstr_encode s
  obtain ⟨v, hv⟩ := Option.isSome_iff_exists.1 (h k hk)
  rw [hv, hpre.getElem hk, bytesRead_getElem_of_byteAt hbug _ hv]

/-- Where a state holds the bytes of the instruction it fetches, a state with the same PC and bytes fetches the same
instruction. -/
theorem fetchInstr_eq_of_fields_eq (h : s.HoldsItsBytes) (hbug : s.haltBug = false) (hbug' : t.haltBug = false)
    (hpc : t.pc = s.pc) (hmem : t.mem = s.mem) (hparams : t.params = s.params) (hie : t.ie = s.ie)
    (hif : t.iflag = s.iflag) :
    (fetchInstr t).instr = (fetchInstr s).instr ∧ (fetchInstr t).state.pc = (fetchInstr s).state.pc := by
  obtain ⟨hwf, -, -⟩ := fetchInstr_encode s
  have hs := fetchInstr_of_decodes (decodes_encode hwf) hbug (h.byteAt_eq hbug)
  have ht : fetchInstr t = _ := fetchInstr_of_decodes (hparams ▸ decodes_encode hwf) hbug' fun k hk => by
    rw [hpc, byteAt_eq_of_fields_eq hmem hparams hie hif, h.byteAt_eq hbug k hk]
  rw [ht, congrArg (·.state.pc) hs]
  exact ⟨rfl, congrArg (· + _) hpc⟩

/-- A fetch changes nothing but PC, the HALT bug, the port's history and the address it keeps of the opcode. -/
theorem fetchInstr_state_eq (s : State) : (fetchInstr s).state = { s with
    pc := (fetchInstr s).state.pc, haltBug := false, port := (fetchInstr s).state.port, opcodePc := s.pc } :=
  (State.mk.injEq ..).mpr (by simp)

/-! ## The jump to itself (R500, R503) -/

theorem exec_of_jumpsToItself (h : s.jumpsToItself = true) (ht : t.pc = (fetchInstr s).state.pc) :
    (fetchInstr s).instr ≠ .di ∧ ∃ n, exec (fetchInstr s).instr t = .next ((t.setPc s.pc).setCycles n) := by
  unfold State.jumpsToItself at h
  split at h
  next e hi =>
    rw [hi, exec_jrE8, ht, of_decide_eq_true h]
    exact ⟨nofun, 12#32, rfl⟩
  next a hi =>
    rw [hi, exec_jpA16, of_decide_eq_true h]
    exact ⟨nofun, 16#32, rfl⟩
  next => cases h

/-- The state a jump to itself leaves, with the count `n` and the port's history `p`. -/
def State.afterSelfJump (s : State) (n : BitVec 32) (p : List PortEvent) : State :=
  { s with
    run := .running, eiPending := false, haltBug := false, ime := s.ime || s.eiPending
    opcodePc := s.pc, cycles := n, port := p }

/-- A second jump leaves what one does (R590). -/
theorem afterSelfJump_afterSelfJump (s : State) (n m : BitVec 32) (p q : List PortEvent) :
    (s.afterSelfJump n p).afterSelfJump m q = s.afterSelfJump m q := by
  simp [State.afterSelfJump]

theorem locked_and_wake_of_executesNext (h : s.executesNext = true) :
    s.locked = false ∧ wake s = s.setRun .running := by
  simp only [State.executesNext, Bool.and_eq_true, Bool.not_eq_true', decide_eq_true_eq] at h
  obtain ⟨⟨hlock, hrun⟩, -⟩ := h
  exact ⟨hlock, by rw [wake_state, hrun]; rfl⟩

theorem step_of_jumpsToItself (hex : s.executesNext = true) (hjump : s.jumpsToItself = true) :
    ∃ n p, step s = .next (s.afterSelfJump n p) := by
  obtain ⟨hlock, hwake⟩ := locked_and_wake_of_executesNext hex
  obtain ⟨hwf, hop, -⟩ := fetchInstr_encode s
  obtain ⟨hdi, n, hexec⟩ :=
    exec_of_jumpsToItself (t := ((fetchInstr s).state.setRun .running).setEiPending false) hjump (by simp)
  refine ⟨n, .elapsed n :: (fetchInstr s).state.port, ?_⟩
  rw [step_of_executesNext hex, hwake, instructionStep]
  simp only [fetchInstr_setEiPending, fetchInstr_setRun, hexec, ← hop, elapse_applyEi hwf]
  rw [fetchInstr_state_eq]
  simp [hdi, hlock, State.afterSelfJump]

/-! ## The end condition -/

theorem atSelfLoop_of_step (h : step s = .next t) :
    s.atSelfLoop = (s.executesNext && s.jumpsToItself && t.interruptsOff) := by
  simp [State.atSelfLoop, h]

/-- With no source enabled none is pending (R565). -/
theorem pending_of_no_source_enabled (h : s.ie &&& 0x1F#8 = 0#8) : s.pending = 0#5 := by
  have hbits : ∀ v : Byte, v &&& 0x1F#8 = 0#8 → v.setWidth 5 = 0#5 := by decide
  rw [State.pending, hbits s.ie h, BitVec.zero_and]

theorem executesNext_of_interruptsOff (hlock : s.locked = false) (hrun : s.run = .running)
    (hoff : s.interruptsOff = true) : s.executesNext = true := by
  have hwake : (wake s).run = .running := by simp [wake_run, hrun]
  rw [State.interruptsOff, Bool.or_eq_true, Bool.not_eq_true', decide_eq_true_eq] at hoff
  rcases hoff with hime | hie
  · simp [State.executesNext, hlock, hwake, hime]
  · simp [State.executesNext, hlock, hwake, pending_of_no_source_enabled hie]

/-- A state at LOOP jumps to itself, and no interrupt can be serviced in the state it leaves. -/
theorem step_of_atSelfLoop (h : s.atSelfLoop = true) : s.locked = false ∧ s.jumpsToItself = true ∧
    ∃ n p, step s = .next (s.afterSelfJump n p) ∧ (s.afterSelfJump n p).interruptsOff = true := by
  have hboth : s.executesNext = true ∧ s.jumpsToItself = true := by
    rw [State.atSelfLoop, Bool.and_eq_true, Bool.and_eq_true] at h
    exact h.1
  obtain ⟨hex, hjump⟩ := hboth
  obtain ⟨n, p, hstep⟩ := step_of_jumpsToItself hex hjump
  rw [atSelfLoop_of_step hstep, Bool.and_eq_true] at h
  exact ⟨(locked_and_wake_of_executesNext hex).1, hjump, n, p, hstep, h.2⟩

/-- The state a jump to itself leaves is at LOOP where it holds the jump. -/
theorem afterSelfJump_atSelfLoop {n : BitVec 32} {p : List PortEvent} (hlock : s.locked = false)
    (hjump : s.jumpsToItself = true) (hoff : (s.afterSelfJump n p).interruptsOff = true) (hbug : s.haltBug = false)
    (hbytes : s.HoldsItsBytes) : (s.afterSelfJump n p).atSelfLoop = true := by
  have hex := executesNext_of_interruptsOff (s := s.afterSelfJump n p) hlock rfl hoff
  obtain ⟨hinstr, hpc⟩ :=
    fetchInstr_eq_of_fields_eq (t := s.afterSelfJump n p) hbytes hbug rfl rfl rfl rfl rfl rfl
  have hjump' : (s.afterSelfJump n p).jumpsToItself = true := by
    rw [State.jumpsToItself, hinstr, hpc]
    exact hjump
  obtain ⟨m, q, hstep⟩ := step_of_jumpsToItself hex hjump'
  rw [afterSelfJump_afterSelfJump] at hstep
  have hoff' : (s.afterSelfJump m q).interruptsOff = true := hoff
  rw [atSelfLoop_of_step hstep, hex, hjump', hoff']
  rfl

end Sys2Proof.Machine

namespace Sys2Proof.Proofs

open Machine

/-- Settles O28: a jump to itself leaves the state at LOOP if the state holds the jump, and a second one leaves
nothing more to change. -/
theorem aSelfLoopIsTheEndOfARun : Obligations.ASelfLoopIsTheEndOfARun := by
  intro s h
  obtain ⟨hlock, hjump, n, p, hstep, hoff⟩ := step_of_atSelfLoop h
  refine ⟨_, hstep, rfl, rfl, fun hbug hbytes => ?_⟩
  have hloop := afterSelfJump_atSelfLoop hlock hjump hoff hbug hbytes
  obtain ⟨-, -, m, q, hstep', -⟩ := step_of_atSelfLoop hloop
  rw [afterSelfJump_afterSelfJump] at hstep'
  exact ⟨hloop, _, hstep', rfl, rfl⟩

end Sys2Proof.Proofs

/-! # The system instructions (R530 to R536)

O22 and O52 to O55: what HALT, STOP, DI, EI, NOP, PREFIX CB and the illegal opcodes do, and the step that executes one
instruction with the delayed EI around it. -/

namespace Sys2Proof

/-- The pair 0xCB, b is the CB-table entry b (R102, R535). -/
theorem decodes_cbCell (n : StopLength) (b : Byte) : Decodes n [0xCB#8, b] (cbCell b) :=
  .two (n := n) (op := 0xCB#8) rfl

end Sys2Proof

namespace Sys2Proof.Machine

open Stated

variable {i : Instr} {op : Byte} {s t : State}

/-- A bit is pending if IE and IF, read as numbers, have it in common (R565). -/
theorem pending_ne_zero_iff : s.pending ≠ 0#5 ↔ s.ie.toNat % 32 &&& s.iflag.toNat ≠ 0 := by
  rw [State.pending, ne_eq, ← BitVec.toNat_inj, BitVec.toNat_and, BitVec.toNat_setWidth]
  rfl

theorem exec_cbCell_count (b : Byte) (s : State) :
    ∃ t, exec (cbCell b) s = .next t ∧ t.cycles.toNat ∈ [8, 12, 16] := by
  have hcount {m : BitVec 32} (hm : m.toNat ∈ [8, 12, 16]) (z : R8) :
      (if z = .ind then m else 8#32).toNat ∈ [8, 12, 16] := by
    split
    · exact hm
    · decide
  unfold cbCell
  split
  · exact ⟨_, exec_rotR8 .., hcount (by decide) _⟩
  · exact ⟨_, exec_bitR8 .., hcount (by decide) _⟩
  · exact ⟨_, exec_resR8 .., hcount (by decide) _⟩
  · exact ⟨_, exec_setR8 .., hcount (by decide) _⟩

/-- The step of a core that executes, by what its instruction leaves: a pending EI then sets IME (R575, R580). -/
theorem step_of_exec (hex : executes s)
    (h : exec (fetchInstr s).instr ((fetchInstr s).state.setEiPending false) = .next t) :
    step s = .next { t with
      ime := t.ime || (s.eiPending && decide ((fetchInstr s).instr ≠ .di) && !t.locked)
      port := .elapsed t.cycles :: t.port } := by
  obtain ⟨hwf, hop, -⟩ := fetchInstr_encode s
  rw [step_of_executes hex, instructionStep]
  simp only [fetchInstr_setEiPending, h, ← hop, elapse_applyEi hwf]

/-- The fetch of an illegal opcode the block owns: one byte, and no port access (R101, R112). -/
theorem fetchInstr_of_mem_illegalTable (hrow : (i, op) ∈ illegalTable) (h : peek s.pc s = some op) :
    fetchInstr s = ⟨op, i, { s with
      pc := if s.haltBug then s.pc else s.pc + 1, haltBug := false, opcodePc := s.pc }⟩ := by
  have hop : fetchOpcode s = (op, { s with
      pc := if s.haltBug then s.pc else s.pc + 1, haltBug := false, opcodePc := s.pc }) := by
    cases hb : s.haltBug
    · simp [fetchOpcode_of_no_haltBug hb, busRead_of_peek s h, hb]
    · simp [fetchOpcode_of_haltBug hb, busRead_of_peek s h]
  have hdec : Decodes s.params.stopLength [op] i :=
    encode_of_mem_illegalTable hrow ▸ decodes_encode (wf_of_mem_illegalTable hrow)
  cases hdec with
  | one hlen => exact fetchInstr_of_length_one hop hlen

/-- A step that fetches an illegal opcode leaves a pending EI unapplied (R536, R575). -/
theorem step_of_mem_illegalTable (hrow : (i, op) ∈ illegalTable) (hex : executes s) (h : peek s.pc s = some op) :
    step s = .next { s with
      locked := true, illegalOpcode := op, illegalPc := s.pc, cycles := s.params.lockedCycles, opcodePc := s.pc
      pc := if s.haltBug then s.pc else s.pc + 1, haltBug := false, eiPending := false
      port := .elapsed s.params.lockedCycles :: s.port } := by
  have hfetch := fetchInstr_of_mem_illegalTable hrow h
  have hexec : exec (fetchInstr s).instr ((fetchInstr s).state.setEiPending false) =
      .next (raiseIllegal op s.pc ((fetchInstr s).state.setEiPending false)) := by
    rw [hfetch]
    exact exec_of_mem_illegalTable _ hrow
  rw [step_of_exec hex hexec, raiseIllegal_locked, Bool.not_true, Bool.and_false, Bool.or_false, hfetch]
  rfl

/-! ## The instruction after EI (R532, R533, R575) -/

section

variable (h : exec i s = .next t)
include h

/-- Only EI leaves an EI pending. -/
theorem exec_eiPending_iff (hs : s.eiPending = false) : t.eiPending = true ↔ i = .ei := by
  obtain ⟨-, hei, -⟩ := exec_control i s t h
  by_cases hi : i = .ei
  · subst hi
    cases h
    simp
  by_cases hd : i = .di
  · subst hd
    cases h
    simp
  · simp [hei hi hd, hs, hi]

/-- HALT arms the HALT bug where IME is 0 and an interrupt is pending (R530). -/
theorem exec_halt_haltBug_iff (hi : i = .halt) (hs : s.haltBug = false) :
    t.haltBug = true ↔ s.ime = false ∧ s.pending ≠ 0#5 := by
  rw [hi, exec_halt, halt_eq_done] at h
  split at h
  next hbug =>
    cases h
    simpa using hbug
  next hbug =>
    cases h
    simpa [hs] using hbug

end

end Sys2Proof.Machine

namespace Sys2Proof.Proofs

open Machine

/-- Settles O52: the statement's number IE & IF & 0x1F is 0 where no bit is pending. -/
theorem haltStopsOrArmsTheHaltBug : Obligations.HaltStopsOrArmsTheHaltBug := by
  intro s
  refine ⟨rfl, ?_⟩
  rw [exec_halt, halt]
  simp only [pending_ne_zero_iff]
  split <;> rfl

/-- Settles O53, one form at a time. -/
theorem stopDiEiAndNop : Obligations.StopDiEiAndNop := fun _ ign s =>
  ⟨⟨rfl, rfl, exec_stop s ign⟩, ⟨rfl, exec_di s⟩, ⟨rfl, exec_ei s⟩, rfl, exec_nop s⟩

/-- Settles O54: the pair is one instruction of two bytes, which the PREFIX CB row executes. -/
theorem thePrefixSelectsTheCbTable : Obligations.ThePrefixSelectsTheCbTable := by
  intro n b s
  have hdec := decodes_cbCell n b
  obtain ⟨hwf, henc⟩ := hdec.encode_eq
  obtain ⟨t, ht, hcount⟩ := exec_cbCell_count b s
  exact ⟨decode_eq_ok_iff.2 ⟨_, hdec, rfl⟩, hwf, henc, t, (exec_prefixCb s b).trans ht, ht, hcount⟩

/-- Settles O55: what the exception does, and the step that fetches the byte that raises it. -/
theorem illegalOpcodesLockTheCore : Obligations.IllegalOpcodesLockTheCore := fun _ _ s hrow =>
  ⟨encode_of_mem_illegalTable hrow, exec_of_mem_illegalTable s hrow, step_of_mem_illegalTable hrow⟩

/-- Settles O22, by what the instruction leaves of IME, `ei_pending`, the HALT bug and the lock before the pending EI
is applied. -/
theorem theDelayedEnableTakesEffectOneInstructionLater :
    Obligations.TheDelayedEnableTakesEffectOneInstructionLater := by
  intro s hex hpend i
  have ⟨hlocked, _, _⟩ := hex
  obtain ⟨u, hu⟩ := exec_next ((fetchInstr s).state.setEiPending false) i
  refine ⟨_, step_of_exec hex hu, fun hdi hlegal => ?enabled, fun hdi => ?di, fun hillegal => ?illegal,
    exec_eiPending_iff (t := u) hu (by simp), fun hhalt => ?halt⟩
  case enabled =>
    obtain ⟨-, -, -, -, hlock, -⟩ := exec_control _ _ u hu
    obtain ⟨hkept, -, -⟩ := hlock hlegal
    have hunlocked : u.locked = false := by simpa [hlocked] using hkept
    show (u.ime || (s.eiPending && decide (i ≠ .di) && !u.locked)) = true
    simp [hpend, hdi, hunlocked]
  case di =>
    rw [hdi, exec_di, done_eq_next] at hu
    show (u.ime || (s.eiPending && decide (i ≠ .di) && !u.locked)) = false
    simp [hdi, ← hu]
  case illegal =>
    obtain ⟨op, hraise⟩ := exec_of_isIllegal ((fetchInstr s).state.setEiPending false) hillegal
    cases hraise.symm.trans hu
    simp
  case halt => simpa [State.pending] using exec_halt_haltBug_iff hu hhalt (by simp)

end Sys2Proof.Proofs

/-! # Interrupts and the idle core (R561 to R580)

O16 to O21: a step that finds an interrupt to service leaves `State.dispatched`, a core that waits does nothing, and
the host's signals set one bit of IF or end STOPPED. -/

namespace Sys2Proof.Machine

open Stated

variable {s : State}

/-! ## The sources (R561, R565, R570) -/

theorem InterruptSource.ofCode_code (k : InterruptSource) : InterruptSource.ofCode k.code = some k := by
  cases k <;> rfl

theorem InterruptSource.exists_code_eq (k : Fin 5) : ∃ source : InterruptSource, source.code = k := by
  fin_cases k
  exacts [⟨.vblank, rfl⟩, ⟨.lcdStat, rfl⟩, ⟨.timer, rfl⟩, ⟨.serial, rfl⟩, ⟨.joypad, rfl⟩]

theorem InterruptSource.ofCode_eq_none {k : Nat} (h : 5 ≤ k) : InterruptSource.ofCode k = none := by
  match k, h with
  | _ + 5, _ => rfl

theorem InterruptSource.code_lt (k : InterruptSource) : k.code < 5 := by
  cases k <;> decide

theorem InterruptSource.vector_toNat (k : InterruptSource) : k.vector.toNat = 0x0040 + 8 * k.code := by
  cases k <;> rfl

theorem lowestSource_bit (k : InterruptSource) : lowestSource (1#5 <<< k.code) = k := by
  cases k <;> rfl

theorem lowestSource_code {p : BitVec 5} {k : Fin 5} (h : ∀ j : Fin 5, j ≤ k → p.getLsbD j = decide (j = k)) :
    (lowestSource p).code = k := by
  revert p k
  decide

theorem pending_getLsbD (s : State) (j : Fin 5) :
    s.pending.getLsbD j = (s.ie.getLsbD j && s.iflag.getLsbD j) := by
  simp [State.pending]

theorem request_iflag_getLsbD (k : InterruptSource) (s : State) (j : Fin 5) :
    (request k s).iflag.getLsbD j = (s.iflag.getLsbD j || decide (j.val = k.code)) := by
  show (s.iflag ||| BitVec.twoPow 5 k.code).getLsbD j = _
  rw [BitVec.getLsbD_or, BitVec.getLsbD_twoPow]
  simp [k.code_lt, eq_comm]

theorem request_request (k : InterruptSource) (s : State) : request k (request k s) = request k s := by
  simp [request, BitVec.or_assoc]

/-- A request of an enabled source, where nothing was pending, is all that is pending (R565, R566). -/
theorem pending_request {k : InterruptSource} (hie : s.ie.getLsbD k.code = true) (hp : s.pending = 0#5) :
    (request k s).pending = 1#5 <<< k.code := by
  have hbit : s.ie.setWidth 5 &&& BitVec.twoPow 5 k.code = BitVec.twoPow 5 k.code := by
    simp [BitVec.and_twoPow, hie, k.code_lt]
  calc (request k s).pending
      = s.pending ||| (s.ie.setWidth 5 &&& BitVec.twoPow 5 k.code) := BitVec.and_or_distrib_left
    _ = 1#5 <<< k.code := by rw [hp, hbit, BitVec.zero_or, BitVec.twoPow]

/-! ## Dispatch (R571) -/

theorem busWrite_setRun (a : Word) (v : Byte) (r : RunState) (s : State) :
    busWrite a v (s.setRun r) = (busWrite a v s).setRun r := by
  cases h : regionOf a <;> simp only [busWrite, h] <;> rfl

theorem busWrite_setHaltBug (a : Word) (v : Byte) (b : Bool) (s : State) :
    busWrite a v (s.setHaltBug b) = (busWrite a v s).setHaltBug b := by
  cases h : regionOf a <;> simp only [busWrite, h] <;> rfl

/-- A push does not depend on the run state or the HALT bug. -/
theorem pushed_setHaltBug_setRun (v : Word) (b : Bool) (r : RunState) (s : State) :
    pushed v ((s.setRun r).setHaltBug b) = ((pushed v s).setRun r).setHaltBug b := by
  unfold pushed
  simp only [busWrite_setHaltBug, busWrite_setRun]
  rfl

/-- The state after the step that dispatches the source `k` (R571, R580). -/
def State.dispatched (k : InterruptSource) (s : State) : State :=
  let u := pushed (if s.haltBug then s.pc - 1 else s.pc) s
  { u with
    ime := false, eiPending := false, haltBug := false, run := .running
    iflag := u.iflag &&& ~~~(BitVec.twoPow 5 k.code), pc := k.vector, cycles := 20#32
    port := .elapsed 20#32 :: u.port }

theorem elapse_dispatchInterrupt (k : InterruptSource) (s : State) :
    elapse (dispatchInterrupt k (s.setRun .running)) = s.dispatched k := by
  have hret : (if (s.setRun .running).haltBug then (s.setRun .running).pc - 1 else (s.setRun .running).pc) =
      if s.haltBug then s.pc - 1 else s.pc := rfl
  simp only [dispatchInterrupt, State.dispatched, push16_eq_pushed, pushed_setHaltBug_setRun]
  rw [hret]
  generalize pushed _ s = u
  rfl

@[simp] theorem State.dispatched_a (k : InterruptSource) (s : State) : (s.dispatched k).a = s.a := by
  simp [State.dispatched, pushed]
@[simp] theorem State.dispatched_b (k : InterruptSource) (s : State) : (s.dispatched k).b = s.b := by
  simp [State.dispatched, pushed]
@[simp] theorem State.dispatched_c (k : InterruptSource) (s : State) : (s.dispatched k).c = s.c := by
  simp [State.dispatched, pushed]
@[simp] theorem State.dispatched_d (k : InterruptSource) (s : State) : (s.dispatched k).d = s.d := by
  simp [State.dispatched, pushed]
@[simp] theorem State.dispatched_e (k : InterruptSource) (s : State) : (s.dispatched k).e = s.e := by
  simp [State.dispatched, pushed]
@[simp] theorem State.dispatched_f (k : InterruptSource) (s : State) : (s.dispatched k).f = s.f := by
  simp [State.dispatched, pushed]
@[simp] theorem State.dispatched_h (k : InterruptSource) (s : State) : (s.dispatched k).h = s.h := by
  simp [State.dispatched, pushed]
@[simp] theorem State.dispatched_l (k : InterruptSource) (s : State) : (s.dispatched k).l = s.l := by
  simp [State.dispatched, pushed]

/-- A pending interrupt leaves no core but a STOPPED one waiting (R577). -/
theorem wake_of_pending (hrun : s.run ≠ .stopped) (hp : s.pending ≠ 0#5) : wake s = s.setRun .running := by
  rw [wake_state, wake_run]
  cases h : s.run with
  | running => simp [State.setRun]
  | halted => simp [hp, State.setRun]
  | stopped => exact absurd h hrun

theorem step_of_interrupt (hlock : s.locked = false) (hrun : s.run ≠ .stopped) (hime : s.ime = true)
    (hp : s.pending ≠ 0#5) : step s = .next (s.dispatched (lowestSource s.pending)) := by
  rw [← elapse_dispatchInterrupt]
  have hp' : (s.setRun .running).pending = s.pending := rfl
  simp [step, driverStep, wake_of_pending hrun hp, hp', hlock, hime, hp]

/-- A RAM byte is read from memory and the parameters alone. -/
theorem peek_eq_of_isRam {t : State} {a : Word} (h : isRam a) (hmem : t.mem = s.mem) (hparams : t.params = s.params) :
    peek a t = peek a s := by
  simp [peek, regionOf_of_isRam h, hmem, hparams]

/-- With the stack in RAM a pop after a dispatch gives back the address that was pushed, wherever PC is. -/
theorem pop16_dispatched (k : InterruptSource) (pc : Word) (h1 : isRam (s.sp - 1#16)) (h2 : isRam (s.sp - 2#16)) :
    pop16 ((s.dispatched k).setPc pc) =
      (if s.haltBug then s.pc - 1 else s.pc, ((s.dispatched k).setPc pc).setSp s.sp) := by
  have hsp : ((s.dispatched k).setPc pc).sp = s.sp - 2#16 := rfl
  have hhigh : s.sp - 2#16 + 1#16 = s.sp - 1#16 := by bv_omega
  have hback : s.sp - 2#16 + 2#16 = s.sp := by bv_omega
  let ret := if s.haltBug then s.pc - 1 else s.pc
  have hpeek {a : Word} (h : isRam a) : peek a ((s.dispatched k).setPc pc) = peek a (pushed ret s) :=
    peek_eq_of_isRam h rfl rfl
  rw [pop16_of_peek (lo := low ret) (hi := high ret), hsp, hback, ← lo8_eq_low, ← hi8_eq_high, mk16_hi8_lo8]
  · rw [hsp, hpeek h2, peek_pushed_low s ret h2]
  · rw [hsp, hhigh, hpeek h1, peek_pushed_high s ret h1]

/-- A dispatch with the stack in RAM changes, of the interrupt registers, the serviced bit of IF alone. -/
theorem dispatched_pending (k : InterruptSource) (h1 : isRam (s.sp - 1#16)) (h2 : isRam (s.sp - 2#16)) :
    (s.dispatched k).pending = s.pending &&& ~~~(BitVec.twoPow 5 k.code) := by
  obtain ⟨hie, hif⟩ := KeepsInterruptRegs.of_push16 (if s.haltBug then s.pc - 1 else s.pc) s
  rw [push16_eq_pushed] at hie hif
  have hne {a b : Word} (ha : isRam a) (hb : ¬isRam b) : b ≠ a := fun e => hb (e ▸ ha)
  have hie' := hie (by simp [hne h1, hne h2])
  have hif' := hif (by simp [hne h1, hne h2])
  show (pushed _ s).ie.setWidth 5 &&& ((pushed _ s).iflag &&& _) = _
  rw [hie', hif', ← BitVec.and_assoc]
  rfl

/-! ## Waiting and waking (R577 to R580) -/

theorem step_of_idle (hlock : s.locked = false) (h : (s.run = .halted ∧ s.pending = 0#5) ∨ s.run = .stopped) :
    step s = .next (idleStep s.params.idleCycles s) := by
  have hwaits : wake s = s ∧ s.run ≠ .running := by
    rcases h with ⟨hrun, hp⟩ | hrun
    · simp [wake, hrun, hp]
    · simp [wake, hrun]
  simp [step, driverStep, hlock, hwaits]

theorem step_of_halted_pending (hlock : s.locked = false) (hrun : s.run = .halted) (hp : s.pending ≠ 0#5) :
    step s = step (s.setRun .running) := by
  have hwake : wake s = wake (s.setRun .running) := by simp [wake, hrun, hp]
  simp [step, driverStep, hwake, hlock]

/-- A NOP's step changes, of what the program sees, PC and the spent HALT bug alone (R534). -/
theorem step_of_nop (hex : executes s) (hei : s.eiPending = false) (hnop : (fetchInstr s).instr = .nop) :
    step s = .next { (fetchInstr s).state with
      cycles := 4#32, port := .elapsed 4#32 :: (fetchInstr s).state.port } := by
  have hexec : exec (fetchInstr s).instr ((fetchInstr s).state.setEiPending false) =
      .next (((fetchInstr s).state.setEiPending false).setCycles 4#32) := by
    rw [hnop]
    rfl
  rw [step_of_exec hex hexec, hei, Bool.false_and, Bool.false_and, Bool.or_false, fetchInstr_state_eq, hei]
  rfl

/-! ## The host's signals (R566, R578) -/

theorem transact_request (k : InterruptSource) (s : State) : transact (.request k.code) s = .next (request k s) := by
  simp [transact, k.ofCode_code]

theorem transact_request_of_le {k : Nat} (h : 5 ≤ k) (s : State) :
    transact (.request k) s = .refused (.badInterruptSource k) := by
  simp [transact, InterruptSource.ofCode_eq_none h]

end Sys2Proof.Machine

namespace Sys2Proof.Proofs

open Machine

/-- Settles O16: the driver's idle step. -/
theorem idleStepsFetchNothing : Obligations.IdleStepsFetchNothing := fun _ hlock h => step_of_idle hlock h

/-- Settles O17: the wake leaves the RUNNING state, whose step is a dispatch or an instruction. -/
theorem aPendingInterruptWakesAHaltedCore : Obligations.APendingInterruptWakesAHaltedCore := by
  intro s hrun hp hlock
  have hwake := step_of_halted_pending hlock hrun hp
  refine ⟨hwake, fun hime => ?dispatch, fun hime hnop hei => ?nop⟩
  case dispatch =>
    refine ⟨_, step_of_interrupt hlock (by simp [hrun]) hime hp, rfl, rfl, rfl, ?_⟩
    generalize lowestSource s.pending = k
    show k.vector.toNat ∈ _
    cases k <;> decide
  case nop =>
    have hfetch := fetchInstr_setRun s .running
    have hstep := step_of_nop (s := s.setRun .running) ⟨hlock, rfl, .inl hime⟩ hei (by rw [hfetch, hnop])
    exact ⟨_, hwake.trans hstep, by simp, by simp, by simp, rfl⟩

/-- Settles O18: the statement's bit is the lowest source, and its state `State.dispatched`. -/
theorem interruptDispatch : Obligations.InterruptDispatch := by
  intro s k hlock hrun hime hbits
  simp only [← pending_getLsbD] at hbits
  have hp : s.pending ≠ 0#5 := by
    intro h0
    have hk := hbits k (le_refl k)
    simp [h0] at hk
  rw [step_of_interrupt hlock hrun hime hp, State.dispatched, InterruptSource.vector, lowestSource_code hbits]

/-- Settles O19: RETI pops what the dispatch pushed. -/
theorem dispatchThenRetiResumesTheProgram : Obligations.DispatchThenRetiResumesTheProgram := by
  intro s pc hlock hrun hime hp hbug h1 h2
  have hpop := pop16_dispatched (lowestSource s.pending) pc h1 h2
  simp only [hbug, Bool.false_eq_true, if_false] at hpop
  refine ⟨_, _, step_of_interrupt hlock hrun hime hp,
    exec_reti ((s.dispatched (lowestSource s.pending)).setPc pc), ?_⟩
  simp [hpop]

/-- Settles O20: the requested source is all that is pending, so it is the one served and none is left. -/
theorem aRequestedInterruptIsDispatchedAtTheNextStep :
    Obligations.ARequestedInterruptIsDispatchedAtTheNextStep := by
  intro s k hlock hrun hime hie hp h1 h2
  have hreq := pending_request hie hp
  have hne : (request k s).pending ≠ 0#5 := by
    rw [hreq]
    cases k <;> decide
  have hstep := step_of_interrupt (s := request k s) hlock hrun hime hne
  rw [hreq, lowestSource_bit] at hstep
  refine ⟨_, transact_request k s, hstep, k.vector_toNat, rfl, rfl, rfl, ?_⟩
  rw [dispatched_pending (s := request k s) k h1 h2, hreq]
  exact BitVec.and_not_self _

/-- Settles O21, one transaction at a time; a number in 0..4 is the code of a source. -/
theorem hostSignalsActOnlyAsStated : Obligations.HostSignalsActOnlyAsStated := by
  intro s
  refine ⟨fun k => ?request, fun k hk => transact_request_of_le hk s, fun hrun => ?stopped, fun hrun => ?other⟩
  case request =>
    obtain ⟨source, hsource⟩ := InterruptSource.exists_code_eq k
    have htransact := hsource ▸ transact_request source
    refine ⟨request source s, htransact s, rfl, fun j => ?_, ?_⟩
    · rw [request_iflag_getLsbD, hsource]
      simp only [Fin.ext_iff]
    · rw [htransact, request_request]
  case stopped => simp [transact, wakeStop, hrun, State.setRun]
  case other => simp [transact, wakeStop, hrun]

end Sys2Proof.Proofs

/-! # Reset (R620)

O6: what the reset transaction leaves of memory, and that nothing else clears the lock. -/

namespace Sys2Proof.Machine

open Stated

theorem Memory.find_filter (p : Nat → Bool) (m : Memory) (n : Nat) :
    Memory.find (m.filter fun cell => p cell.1) n = if p n then Memory.find m n else none := by
  induction m with
  | nil => simp [Memory.find]
  | cons cell m ih =>
    by_cases hcell : cell.1 = n
    · subst hcell
      cases hp : p cell.1 <;> simp [Memory.find, hp, ih]
    · cases hp : p cell.1 <;> simp [Memory.find, hp, hcell, ih]

variable {a : Word} (bootSkip : Bool) (s : State)

theorem resetBlock_find (n : Nat) : Memory.find (resetBlock bootSkip s).mem n =
    if ramAddress n then none else Memory.find s.mem n :=
  (Memory.find_filter (fun n => !ramAddress n) s.mem n).trans (by cases ramAddress n <;> rfl)

/-- After a reset every byte of the block's RAM is RAM_FILL. -/
theorem peek_resetBlock_of_isRam (h : isRam a) : peek a (resetBlock bootSkip s) = some s.params.ramFill := by
  have hr := regionOf_of_isRam h
  simp [peek, hr, Memory.ram, resetBlock_find, ramAddress_of_region hr]

/-- A reset keeps the bytes the collaborators are loaded with (log 13). -/
theorem byteAt_resetBlock_of_isExternal (h : isExternal a) : byteAt a (resetBlock bootSkip s) = byteAt a s := by
  have hr := regionOf_of_isExternal h
  have hext := externalAddress_of_region hr
  have hram : ramAddress a.toNat = false := by
    rw [← Bool.not_eq_true]
    intro hram
    simp only [externalAddress, ramAddress, Bool.or_eq_true, Bool.and_eq_true, decide_eq_true_eq] at hext hram
    omega
  simp [byteAt, peek, hr, resetBlock_find, hram]

variable {bootSkip s}

/-- Of the transactions only a reset clears the lock (R44, R560). -/
theorem locked_of_transact {tr : Transaction} {t : State} (hs : s.locked = true) (h : transact tr s = .next t) :
    t.locked = true ∨ ∃ mode, tr = .reset mode := by
  cases tr with
  | reset mode => exact .inr ⟨mode, rfl⟩
  | step =>
    cases (step_of_locked hs).symm.trans h
    exact .inl hs
  | request k =>
    simp only [transact] at h
    split at h <;> cases h
    exact .inl hs
  | wakeStop =>
    cases h
    exact .inl (wakeStop_of_locked hs)

end Sys2Proof.Machine

namespace Sys2Proof.Proofs

open Machine Stated

/-- Settles O6: the registers are the reset state's in either mode; memory and the lock by their own lemmas. -/
theorem resetLeavesTheTabledState : Obligations.ResetLeavesTheTabledState := by
  intro s bootSkip t
  refine ⟨rfl, ?powerOn, ?bootSkip, ?both⟩
  case powerOn =>
    rintro rfl
    exact ⟨rfl, rfl, rfl, rfl, rfl, rfl, rfl, rfl, rfl, rfl, rfl, rfl⟩
  case bootSkip =>
    rintro rfl
    exact ⟨rfl, rfl, rfl, rfl, rfl, rfl, rfl, rfl, rfl, rfl, rfl, rfl⟩
  case both =>
    have hlock (hs : s.locked = true) (other : Transaction) (u : State) (h : transact other s = .next u)
        (hu : u.locked = false) : ∃ mode, other = .reset mode :=
      (locked_of_transact hs h).resolve_left (by simp [hu])
    have hram (a : Word) (h : isRam a) := peek_resetBlock_of_isRam bootSkip s h
    have hext (a : Word) (h : isExternal a) := byteAt_resetBlock_of_isExternal bootSkip s h
    cases bootSkip <;> exact ⟨rfl, rfl, rfl, rfl, rfl, rfl, rfl, hram, rfl, rfl, rfl, hext, hlock⟩

end Sys2Proof.Proofs
